-- ==== Sys2Proof/Word.lean ====
section
/-! DEFINITION. The word types of the core (spec/00_scope.md R9, R10): bytes, 16-bit fields, command
words, parameters and request words. -/

namespace Sys2Proof

/-- A byte, 0..255 (R9). -/
abbrev Byte := BitVec 8

/-- A 16-bit register or frame field (R30 to R32). -/
abbrev Word16 := BitVec 16

/-- A 32-bit command word (R94). -/
abbrev CmdWord := BitVec 32

/-- The 24-bit unsigned parameter of SEND_COMMAND (R97). -/
abbrev Param := BitVec 24

/-- The 64-bit request word REQ (R90). -/
abbrev ReqWord := BitVec 64

end Sys2Proof
end

