-- ==== Sys2Proof/Config.lean ====
section
/-! DEFINITION. What a build of the core fixes (spec/00_scope.md R7, R8): the command table, the bounds
and lengths, the open parameters; the names shared by the port and the agents; the free values. -/

namespace Sys2Proof

/-- The 15 named commands, in the table's order (30_encoding.md R99). -/
inductive Cmd where
  | getFirmwareVersion
  | triggerDetection
  | softReset
  | hardReset
  | saveSettings
  | setFrameRate
  | setBaudRate
  | standardFormatCm
  | standardFormatMm
  | pixhawkFormat
  | enableOutput
  | disableOutput
  | setI2cAddress
  | setSerialMode
  | setI2cMode
  deriving DecidableEq, Repr

/-- CMD_TABLE: one 32-bit word per named command (R7, R99). The reply and command lengths in the low
two bytes are the source's; the identifier and argument bytes are OPEN (decision D6). The values
written here are the spec's defaults. PRESUMED (the spec marks them as general knowledge): log 10. -/
structure CmdTable where
  getFirmwareVersion : CmdWord := 0x00010407
  triggerDetection   : CmdWord := 0x00040400
  softReset          : CmdWord := 0x00020405
  hardReset          : CmdWord := 0x00100405
  saveSettings       : CmdWord := 0x00110405
  setFrameRate       : CmdWord := 0x00030606
  setBaudRate        : CmdWord := 0x00060808
  standardFormatCm   : CmdWord := 0x01050505
  standardFormatMm   : CmdWord := 0x06050505
  pixhawkFormat      : CmdWord := 0x02050505
  enableOutput       : CmdWord := 0x01070505
  disableOutput      : CmdWord := 0x00070505
  setI2cAddress      : CmdWord := 0x100B050B
  setSerialMode      : CmdWord := 0x000A050A
  setI2cMode         : CmdWord := 0x010A050A
  deriving DecidableEq, Repr

/-- What an arrival does when RXQ already holds RX_CAP bytes: the spec lets a model refuse the arrival
or parametrise it (R40, decision D31). -/
inductive RxFull where
  /-- The model gives the arrival no meaning. -/
  | refuse
  /-- The arriving byte is lost. -/
  | dropNewest
  /-- The oldest waiting bytes are lost to make room. -/
  | dropOldest
  deriving DecidableEq, Repr

/-- The parameters a model takes as arguments (R7). A state carries them and no step writes them, so a
statement about every state is a statement about every build. -/
structure Params where
  /-- CMD_TABLE. -/
  table : CmdTable := {}
  /-- DEADLINE_MIN_POLLS, OPEN with default 0 (decision D9). -/
  deadlineMinPolls : Nat := 0
  /-- RX_CAP, OPEN (decision D31); none is an unbounded input buffer. DESIGN CHOICE: log 12. -/
  rxCap : Option Nat := none
  /-- The overflow behaviour (decision D31). DESIGN CHOICE: log 12. -/
  rxFull : RxFull := .refuse
  deriving DecidableEq, Repr

/-- Why a request is refused, in the order the port tests them (44_facade.md R252, 60_exceptions.md
R304), and why a host write is (20_memory.md R76, decision D26). -/
inductive RefuseReason where
  /-- NO_OP: REQ.OP = 0. -/
  | noOp
  /-- RSV_BITS: REQ.RSV != 0. -/
  | rsvBits
  /-- NOT_OPEN: GET_DATA or SEND_COMMAND while OPENED = 0. -/
  | notOpen
  /-- CMD_LEN: CL outside 3..8. -/
  | cmdLen
  /-- REPLY_LEN: RL is 1 or 2, or above REPLY_MAX. -/
  | replyLen
  /-- PARAM_RANGE: SET_FRAME_RATE with PARAM[23:16] != 0. -/
  | paramRange
  /-- A host write to the read-only view. -/
  | readViewWrite
  deriving DecidableEq, Repr

/-- One agent's turn (10_state.md R20, R48). Every step of the machine is the turn of exactly one
agent. -/
inductive Event where
  /-- CORE: accept a request or run one poll iteration (R47). -/
  | core
  /-- RX: one byte arrives in RXQ (R40). -/
  | rx (b : Byte)
  /-- TXD: the oldest unsent byte goes to the wire (R42). -/
  | txd
  /-- TIMER: the running timer expires (R43). -/
  | timer
  /-- HOST: present a request, or change the one held (R45, R350). -/
  | hostRequest (w : ReqWord)
  /-- HOST: drive XPORT_OK (R44). -/
  | hostXport (isOpen : Bool)
  /-- HOST: put an index on the read view's address port (R46, R76). -/
  | hostRead (idx : Byte)
  /-- HOST: try to write the read view (R11, R76, decision D26). -/
  | hostWrite (idx value : Byte)
  /-- HOST: assert rst for one step (R46, R341). -/
  | hostReset
  deriving DecidableEq, Repr, Inhabited

namespace Config

/-- FRAME_LEN, and DRAIN_KEEP, which equals it (R7, R8). -/
def frameLen : Nat := 9

/-- FRAME_HDR, at frame offsets 0 and 1 (R7). -/
def frameHdr : Byte := 0x59

/-- CMD_HDR, at offset 0 of commands and replies (R7). -/
def cmdHdr : Byte := 0x5A

/-- DRAIN_KEEP: GET_DATA drains the input down to this many bytes (R7). -/
def drainKeep : Nat := 9

/-- REPLY_MAX, the largest reply length (R7, decision D17). Log 11. -/
def replyMax : Nat := 11

/-- T_DEADLINE in milliseconds (R7, R362). No rule reads it: log 19. -/
def deadlineMillis : Nat := 1000

/-- T_SETTLE in milliseconds: about 200, its exact value OPEN (R7, decision D10). No rule reads it:
log 19. -/
opaque settleMillis : Nat

/-- The documented baud rates of the transport (R7). They belong to the host, and the core does not
check them (decision D34). -/
def documentedBauds : List Nat := [9600, 14400, 19200, 56000, 115200, 460800, 921600]

/-- The spec's default command table (R99). Log 10. -/
def defaultTable : CmdTable := {}

/-- FREE VALUE: which agent moves, and with what byte or request, when the state's own schedule names
no turn. It has no body: R48 lets any agent with an enabled step take it, and I6 to I8 leave
arrivals, expiries and transmissions to any value. Log 3. -/
opaque freeEvent : Nat → Event

end Config
end Sys2Proof
end

