-- ==== Sys2Proof/Machine/Operands.lean ====
section
/-! DEFINITION. Reading the fields of a request word, a command word, a parameter and a frame
(spec/30_encoding.md R90 to R97), and the number readings of spec/00_scope.md R9, R10. -/

namespace Sys2Proof

/-- Every named command, in the table's order (R99). -/
def Cmd.all : List Cmd :=
  [.getFirmwareVersion, .triggerDetection, .softReset, .hardReset, .saveSettings, .setFrameRate,
   .setBaudRate, .standardFormatCm, .standardFormatMm, .pixhawkFormat, .enableOutput,
   .disableOutput, .setI2cAddress, .setSerialMode, .setI2cMode]

/-- CMD_TABLE[c] (R99). -/
def CmdTable.word (t : CmdTable) : Cmd → CmdWord
  | .getFirmwareVersion => t.getFirmwareVersion
  | .triggerDetection   => t.triggerDetection
  | .softReset          => t.softReset
  | .hardReset          => t.hardReset
  | .saveSettings       => t.saveSettings
  | .setFrameRate       => t.setFrameRate
  | .setBaudRate        => t.setBaudRate
  | .standardFormatCm   => t.standardFormatCm
  | .standardFormatMm   => t.standardFormatMm
  | .pixhawkFormat      => t.pixhawkFormat
  | .enableOutput       => t.enableOutput
  | .disableOutput      => t.disableOutput
  | .setI2cAddress      => t.setI2cAddress
  | .setSerialMode      => t.setSerialMode
  | .setI2cMode         => t.setI2cMode

/-- The named command a word is, by equality of all 32 bits (R100, R235, decision D36); none for a
generic word. -/
def CmdTable.find? (t : CmdTable) (cmd : CmdWord) : Option Cmd :=
  Cmd.all.find? fun c => t.word c == cmd

namespace Machine

/-- REQ.OP, bits 1:0 (R90). -/
def reqOp (w : ReqWord) : BitVec 2 := w.extractLsb' 0 2

/-- REQ.RSV, bits 7:2 (R90). -/
def reqRsv (w : ReqWord) : BitVec 6 := w.extractLsb' 2 6

/-- REQ.PARAM, bits 31:8 (R90). -/
def reqParam (w : ReqWord) : Param := w.extractLsb' 8 24

/-- REQ.CMD, bits 63:32 (R90). -/
def reqCmd (w : ReqWord) : CmdWord := w.extractLsb' 32 32

/-- RL, the declared reply length, bits 7:0 of a command word (R94). -/
def cmdRl (c : CmdWord) : Byte := c.extractLsb' 0 8

/-- CL, the declared command length, bits 15:8 (R94). -/
def cmdCl (c : CmdWord) : Byte := c.extractLsb' 8 8

/-- ID, the command identifier, bits 23:16 (R94). -/
def cmdId (c : CmdWord) : Byte := c.extractLsb' 16 8

/-- ARG, the default argument byte, bits 31:24 (R94). -/
def cmdArg (c : CmdWord) : Byte := c.extractLsb' 24 8

/-- PARAM[7:0] (R97). -/
def paramLo (p : Param) : Byte := p.extractLsb' 0 8

/-- PARAM[15:8] (R97). -/
def paramMid (p : Param) : Byte := p.extractLsb' 8 8

/-- PARAM[23:16] (R97). -/
def paramHi (p : Param) : Byte := p.extractLsb' 16 8

/-- `u16le(lo, hi) = hi * 256 + lo` (R9). -/
def u16le (lo hi : Byte) : Word16 := hi ++ lo

/-- `s16(u)`, the signed reading of a 16-bit value (R9). -/
def s16 (u : Word16) : Int := u.toInt

/-- The low byte of a 16-bit register (R70, R76). -/
def loByte (u : Word16) : Byte := u.extractLsb' 0 8

/-- The high byte of a 16-bit register (R70, R76). -/
def hiByte (u : Word16) : Byte := u.extractLsb' 8 8

/-- `A[a..b]`, both ends included, empty when `b < a` (R10). -/
def slice (A : List Byte) (a b : Nat) : List Byte := (A.take (b + 1)).drop a

/-- The distance field of a frame, offsets 2 and 3 (R92). -/
def frameDist (f : Vector Byte 9) : Word16 := u16le f[2] f[3]

/-- The flux field of a frame, offsets 4 and 5 (R92). -/
def frameFlux (f : Vector Byte 9) : Word16 := u16le f[4] f[5]

/-- The raw temperature field of a frame, offsets 6 and 7 (R92). -/
def frameRawTemp (f : Vector Byte 9) : Word16 := u16le f[6] f[7]

/-- TEMP of a raw value: `(raw >> 3) - 256`, raw unsigned, computed exactly and then held as 16-bit
two's complement (41_frame.md R150, decision D12). -/
def tempOf (raw : Word16) : Word16 := BitVec.ofInt 16 (((raw.toNat >>> 3 : Nat) : Int) - 256)

end Machine
end Sys2Proof
end

