-- ==== Sys2Proof/Syntax.lean ====
section
/-! DEFINITION. The requests the port can carry (spec/30_encoding.md R90, R99): one constructor per row of
spec/opcode_table.json. Fields an operation ignores are kept, so that no bit of a request is lost. -/

namespace Sys2Proof

/-- A request. `param` is REQ.PARAM and `cmd` is REQ.CMD (R90). A named command's word is its entry in
CMD_TABLE, so the constructor carries only the parameter. -/
inductive Instr where
  /-- BEGIN (44_facade.md R259); PARAM and CMD are ignored. -/
  | beginOp (param : Param) (cmd : CmdWord)
  /-- GET_DATA (41_frame.md R141); PARAM and CMD are ignored. -/
  | getData (param : Param) (cmd : CmdWord)
  /-- SENDCMD GET_FIRMWARE_VERSION (43_commands.md R220). -/
  | getFirmwareVersion (param : Param)
  /-- SENDCMD TRIGGER_DETECTION (R221). -/
  | triggerDetection (param : Param)
  /-- SENDCMD SOFT_RESET (R222). -/
  | softReset (param : Param)
  /-- SENDCMD HARD_RESET (R223). -/
  | hardReset (param : Param)
  /-- SENDCMD SAVE_SETTINGS (R224). -/
  | saveSettings (param : Param)
  /-- SENDCMD SET_FRAME_RATE (R225); `param` is the frame rate. -/
  | setFrameRate (param : Param)
  /-- SENDCMD SET_BAUD_RATE (R226); `param` is the baud rate. -/
  | setBaudRate (param : Param)
  /-- SENDCMD STANDARD_FORMAT_CM (R227). -/
  | standardFormatCm (param : Param)
  /-- SENDCMD STANDARD_FORMAT_MM (R228). -/
  | standardFormatMm (param : Param)
  /-- SENDCMD PIXHAWK_FORMAT (R229). -/
  | pixhawkFormat (param : Param)
  /-- SENDCMD ENABLE_OUTPUT (R230). -/
  | enableOutput (param : Param)
  /-- SENDCMD DISABLE_OUTPUT (R231). -/
  | disableOutput (param : Param)
  /-- SENDCMD SET_I2C_ADDRESS (R232). -/
  | setI2cAddress (param : Param)
  /-- SENDCMD SET_SERIAL_MODE (R233). -/
  | setSerialMode (param : Param)
  /-- SENDCMD SET_I2C_MODE (R234). -/
  | setI2cMode (param : Param)
  /-- SENDCMD with any other command word (R101, R235). -/
  | sendGeneric (cmd : CmdWord) (param : Param)
  /-- The reserved encoding OP = 0 (R103); `rest` is REQ[63:2]. -/
  | reservedOp0 (rest : BitVec 62)
  deriving DecidableEq, Repr

end Sys2Proof
end

