-- ==== Sys2Proof/WellFormed.lean ====
section
/-! DEFINITION. Which command words, command tables and requests are well formed (spec/30_encoding.md R97,
R98, R103; spec/00_scope.md R8). -/

namespace Sys2Proof

open Sys2Proof.Machine

/-- A well-formed command word: CL in 3..8, and RL = 0 or RL in 3..REPLY_MAX (R98). -/
abbrev CmdWord.WellFormed (c : CmdWord) : Prop :=
  (3 ≤ (cmdCl c).toNat ∧ (cmdCl c).toNat ≤ 8) ∧
  (cmdRl c = 0 ∨ 3 ≤ (cmdRl c).toNat ∧ (cmdRl c).toNat ≤ Config.replyMax)

/-- The 15 words are pairwise distinct (R8). -/
abbrev CmdTable.Distinct (t : CmdTable) : Prop := (Cmd.all.map t.word).Nodup

/-- The limits R8 sets on a command table. -/
abbrev CmdTable.Valid (t : CmdTable) : Prop :=
  t.Distinct ∧
  (∀ c ∈ Cmd.all, CmdWord.WellFormed (t.word c)) ∧
  6 ≤ (cmdRl t.getFirmwareVersion).toNat ∧
  4 ≤ (cmdRl t.softReset).toNat ∧
  4 ≤ (cmdRl t.hardReset).toNat ∧
  4 ≤ (cmdRl t.saveSettings).toNat

/-- The lengths RL and CL that the source's command table gives each command (R99). They are normative;
only ID and ARG are open. -/
def Cmd.lengths : Cmd → Byte × Byte
  | .getFirmwareVersion => (7, 4)
  | .triggerDetection   => (0, 4)
  | .softReset          => (5, 4)
  | .hardReset          => (5, 4)
  | .saveSettings       => (5, 4)
  | .setFrameRate       => (6, 6)
  | .setBaudRate        => (8, 8)
  | .standardFormatCm   => (5, 5)
  | .standardFormatMm   => (5, 5)
  | .pixhawkFormat      => (5, 5)
  | .enableOutput       => (5, 5)
  | .disableOutput      => (5, 5)
  | .setI2cAddress      => (11, 5)
  | .setSerialMode      => (10, 5)
  | .setI2cMode         => (10, 5)

/-- Every word of the table has the reply and command length of R99. -/
abbrev CmdTable.SourceLengths (t : CmdTable) : Prop :=
  ∀ c ∈ Cmd.all, cmdRl (t.word c) = c.lengths.1 ∧ cmdCl (t.word c) = c.lengths.2

/-- A request term that some word stands for: a generic word is no word of the table (R235). -/
abbrev Instr.Encodable (t : CmdTable) : Instr → Prop
  | .sendGeneric cmd _ => t.find? cmd = none
  | .beginOp _ _ | .getData _ _ | .getFirmwareVersion _ | .triggerDetection _ | .softReset _
  | .hardReset _ | .saveSettings _ | .setFrameRate _ | .setBaudRate _ | .standardFormatCm _
  | .standardFormatMm _ | .pixhawkFormat _ | .enableOutput _ | .disableOutput _
  | .setI2cAddress _ | .setSerialMode _ | .setI2cMode _ | .reservedOp0 _ => True

/-- A request with a meaning, apart from OPENED, which is state (R103): not the reserved OP, a
well-formed command word, and a frame rate that fits two bytes. -/
abbrev Instr.WellFormed (t : CmdTable) : Instr → Prop
  | .beginOp _ _ | .getData _ _ => True
  | .getFirmwareVersion _ => CmdWord.WellFormed t.getFirmwareVersion
  | .triggerDetection _ => CmdWord.WellFormed t.triggerDetection
  | .softReset _ => CmdWord.WellFormed t.softReset
  | .hardReset _ => CmdWord.WellFormed t.hardReset
  | .saveSettings _ => CmdWord.WellFormed t.saveSettings
  | .setFrameRate p => CmdWord.WellFormed t.setFrameRate ∧ paramHi p = 0
  | .setBaudRate _ => CmdWord.WellFormed t.setBaudRate
  | .standardFormatCm _ => CmdWord.WellFormed t.standardFormatCm
  | .standardFormatMm _ => CmdWord.WellFormed t.standardFormatMm
  | .pixhawkFormat _ => CmdWord.WellFormed t.pixhawkFormat
  | .enableOutput _ => CmdWord.WellFormed t.enableOutput
  | .disableOutput _ => CmdWord.WellFormed t.disableOutput
  | .setI2cAddress _ => CmdWord.WellFormed t.setI2cAddress
  | .setSerialMode _ => CmdWord.WellFormed t.setSerialMode
  | .setI2cMode _ => CmdWord.WellFormed t.setI2cMode
  | .sendGeneric cmd _ => t.find? cmd = none ∧ CmdWord.WellFormed cmd
  | .reservedOp0 _ => False

end Sys2Proof
end

