-- ==== Sys2Proof/Decode.lean ====
section
/-! DEFINITION. The decoder of request words, total and refusing by name, and the encoder
(spec/30_encoding.md R90, R99 to R103). Both take the command table, which is a parameter of the
build. -/

namespace Sys2Proof

open Sys2Proof.Machine

/-- SEND_COMMAND with a table word, by name. -/
def Instr.named : Cmd → Param → Instr
  | .getFirmwareVersion, p => .getFirmwareVersion p
  | .triggerDetection, p   => .triggerDetection p
  | .softReset, p          => .softReset p
  | .hardReset, p          => .hardReset p
  | .saveSettings, p       => .saveSettings p
  | .setFrameRate, p       => .setFrameRate p
  | .setBaudRate, p        => .setBaudRate p
  | .standardFormatCm, p   => .standardFormatCm p
  | .standardFormatMm, p   => .standardFormatMm p
  | .pixhawkFormat, p      => .pixhawkFormat p
  | .enableOutput, p       => .enableOutput p
  | .disableOutput, p      => .disableOutput p
  | .setI2cAddress, p      => .setI2cAddress p
  | .setSerialMode, p      => .setSerialMode p
  | .setI2cMode, p         => .setI2cMode p

/-- SEND_COMMAND: a word equal to a table word is that command, any other is generic (R100, R101,
R235). -/
def Instr.ofSend (t : CmdTable) (cmd : CmdWord) (p : Param) : Instr :=
  match t.find? cmd with
  | some c => .named c p
  | none   => .sendGeneric cmd p

/-- The request a word stands for, or the name of the reason it stands for none. OP = 0 is tested
before RSV (R252), so the reserved encoding keeps every other bit. -/
def decode (t : CmdTable) (w : ReqWord) : Except RefuseReason Instr :=
  if reqOp w = 0 then .ok (.reservedOp0 (w.extractLsb' 2 62))
  else if reqRsv w ≠ 0 then .error .rsvBits
  else if reqOp w = 1 then .ok (.beginOp (reqParam w) (reqCmd w))
  else if reqOp w = 2 then .ok (.getData (reqParam w) (reqCmd w))
  else .ok (Instr.ofSend t (reqCmd w) (reqParam w))

/-- A request word from its fields, RSV = 0 (R90). -/
def packReq (cmd : CmdWord) (p : Param) (op : BitVec 2) : ReqWord := cmd ++ p ++ 0#6 ++ op

/-- The word of a request (R90, R99, R104). -/
def encode (t : CmdTable) : Instr → ReqWord
  | .beginOp p c           => packReq c p 1
  | .getData p c           => packReq c p 2
  | .getFirmwareVersion p  => packReq t.getFirmwareVersion p 3
  | .triggerDetection p    => packReq t.triggerDetection p 3
  | .softReset p           => packReq t.softReset p 3
  | .hardReset p           => packReq t.hardReset p 3
  | .saveSettings p        => packReq t.saveSettings p 3
  | .setFrameRate p        => packReq t.setFrameRate p 3
  | .setBaudRate p         => packReq t.setBaudRate p 3
  | .standardFormatCm p    => packReq t.standardFormatCm p 3
  | .standardFormatMm p    => packReq t.standardFormatMm p 3
  | .pixhawkFormat p       => packReq t.pixhawkFormat p 3
  | .enableOutput p        => packReq t.enableOutput p 3
  | .disableOutput p       => packReq t.disableOutput p 3
  | .setI2cAddress p       => packReq t.setI2cAddress p 3
  | .setSerialMode p       => packReq t.setSerialMode p 3
  | .setI2cMode p          => packReq t.setI2cMode p 3
  | .sendGeneric cmd p     => packReq cmd p 3
  | .reservedOp0 rest      => rest ++ 0#2

/-- The 64-bit request word of an instruction given as a number and how many of its bits count; the
bits above are 0. -/
def tableWord (nbits w : Nat) : ReqWord := BitVec.ofNat 64 (w % 2 ^ min nbits 64)

/-- What the decoder reads from an instruction numbered as the opcode table numbers it, under the
spec's default command table, on which that table's rows rest. A request is one word on a port, so
there is no byte order to lay out. -/
def decodeTableWord (nbits w : Nat) : Option Instr :=
  match decode Config.defaultTable (tableWord nbits w) with
  | .ok i    => some i
  | .error _ => none

end Sys2Proof
end

