-- ==== Sys2Proof/Machine/Checksum.lean ====
section
/-! DEFINITION. The checksum validator: the 8-bit accumulator and its three uses (spec/40_checksum.md).
The accumulator is no state: each use starts from 0 and ends within one step (R135). -/

namespace Sys2Proof.Machine

/-- `sum8` of a list of bytes: the sum mod 256, carries dropped at every addition (R130). -/
def sum8 (A : List Byte) : Byte := A.foldl (· + ·) 0

/-- `FrameValid(W)`: `sum8(W[0..7]) = W[8]` (R131). -/
def frameValid (W : Vector Byte 9) : Bool := sum8 (slice W.toList 0 7) == W[8]

/-- `ReplyValid(R, rl)`: `sum8(R[0..rl-2]) = R[rl-1]`, for `rl >= 3` (R132). -/
def replyValid (R : Vector Byte 11) (rl : Nat) : Bool :=
  sum8 (slice R.toList 0 (rl - 2)) == R.toList.getD (rl - 1) 0

/-- `PacketChecksum(P, cl)`: `sum8(P[0..cl-2])`, for `cl >= 3` (R133). -/
def packetChecksum (P : List Byte) (cl : Nat) : Byte := sum8 (slice P 0 (cl - 2))

end Sys2Proof.Machine
end

