-- ==== Sys2Proof/Machine/Codec.lean ====
section
/-! DEFINITION. The command packet encoder ENCODE and the reply header test
(spec/42_command_codec.md R180 to R190, R209). -/

namespace Sys2Proof.Machine

/-- What ENCODE returns: the declared reply length, the declared command length and the packet
(R180). -/
structure Encoded where
  rl : Byte
  cl : Byte
  packet : List Byte
  deriving DecidableEq, Repr

/-- The 8 little-endian bytes of the word zero-extended to 64 bits (R181, decision D5). -/
def expand (cmd : CmdWord) : List Byte := [cmdRl cmd, cmdCl cmd, cmdId cmd, cmdArg cmd, 0, 0, 0, 0]

/-- The parameter splice: two bytes for SET_FRAME_RATE (R184), three for SET_BAUD_RATE (R185), none
for any other word (R186). -/
def splice (t : CmdTable) (cmd : CmdWord) (p : Param) (B : List Byte) : List Byte :=
  if cmd = t.word .setFrameRate then (B.set 3 (paramLo p)).set 4 (paramMid p)
  else if cmd = t.word .setBaudRate then
    ((B.set 3 (paramLo p)).set 4 (paramMid p)).set 5 (paramHi p)
  else B

/-- `ENCODE(CMD, PARAM)`: expand, extract the lengths, overwrite the header, splice, truncate, set the
checksum, in that order (R189). -/
def encodePacket (t : CmdTable) (cmd : CmdWord) (p : Param) : Encoded :=
  let cl := (cmdCl cmd).toNat
  let B := splice t cmd p ((expand cmd).set 0 Config.cmdHdr)
  let P := B.take cl
  { rl := cmdRl cmd, cl := cmdCl cmd, packet := P.set (cl - 1) (packetChecksum P cl) }

/-- The reply header test: `REPLY[0] = 0x5A and REPLY[1] = rl` (R209). -/
def replyHeader (R : Vector Byte 11) (rl : Byte) : Bool := R[0] == Config.cmdHdr && R[1] == rl

/-- `HeaderMatch(W)`: `W[0] = 0x59 and W[1] = 0x59` (41_frame.md R145). -/
def headerMatch (W : Vector Byte 9) : Bool := W[0] == Config.frameHdr && W[1] == Config.frameHdr

/-- The frame window after it receives a byte: every byte moves one place down and `b` comes last
(41_frame.md R143). -/
def shiftFrame (W : Vector Byte 9) (b : Byte) : Vector Byte 9 :=
  #v[W[1], W[2], W[3], W[4], W[5], W[6], W[7], W[8], b]

/-- The reply window of width `rl` after it receives a byte: `R[0..rl-1]` shifts, and the bytes from
`rl` on are not touched (R201). A width above REPLY_MAX does not occur; there the missing next byte
reads 0 (log 24). -/
def shiftReply (R : Vector Byte 11) (rl : Nat) (b : Byte) : Vector Byte 11 :=
  Vector.ofFn fun i =>
    if i.val + 1 < rl then R.toList.getD (i.val + 1) 0
    else if i.val + 1 = rl then b
    else R[i]

end Sys2Proof.Machine
end

