-- ==== Sys2Proof/Machine/State.lean ====
section
/-! DEFINITION. The state of the core and of its environment (spec/10_state.md R20 to R49), the reasons a
step can stop, and the state at power-on (spec/70_reset_and_hazards.md R340). -/

namespace Sys2Proof.Machine

/-- PHASE, the sequencer's position (R22). -/
inductive Phase where
  /-- No operation is running. -/
  | idle
  /-- GET_DATA is searching for a frame header. -/
  | gdSync
  /-- SEND_COMMAND is searching for a reply header. -/
  | scSync
  /-- BEGIN is waiting out the settle delay. -/
  | bgSettle
  deriving DecidableEq, Repr

/-- STATUS, the outcome of the last completed operation, by name (R24). Codes 12..15 are unused and
have no name: log 23. -/
inductive Status where
  | ready
  | serialError
  | headerTimeout
  | checksumFailure
  | timeout
  | commandFailed
  | weakSignal
  | strongSignal
  | floodSignal
  | i2c0
  | i2c1
  | i2c2
  deriving DecidableEq, Repr

/-- MODE, the facade state, which is derived and not stored (R29). -/
inductive Mode where
  | uninitialized
  | ready
  | degraded
  deriving DecidableEq, Repr

/-- TMR, which timer is running (R43). -/
inductive Timer where
  | none
  | deadline
  | settle
  deriving DecidableEq, Repr

/-- The output strobes of the core's interface (R46): what the step just taken drove. The next step starts
with none driven. An output not driven is low, its count 0, its data empty: log 21. -/
structure Strobes where
  /-- rx_pop: `RxPop` (R41). -/
  rxPop : Bool := false
  /-- rx_discard: how many bytes `RxDiscardOldest` dropped (R41). -/
  rxDiscard : Nat := 0
  /-- rx_flush: `RxFlush` (R41). -/
  rxFlush : Bool := false
  /-- tx_write: `TxWrite` (R42). -/
  txWrite : Bool := false
  /-- tx_data: the bytes of that write, at most 8 (R42). -/
  txData : List Byte := []
  /-- tx_flush: `TxFlush` (R42). -/
  txFlush : Bool := false
  /-- tmr_start: `TimerStart` (R43). -/
  tmrStart : Bool := false
  /-- tmr_sel: the timer started, by name (R43). -/
  tmrSel : Timer := .none
  deriving DecidableEq, Repr

/-- Why the machine stops with a fault: never. The core has no trap and no fatal fault
(60_exceptions.md R300, R311, R321), so no step raises one, and this type has no constructor. -/
inductive Fault
  deriving DecidableEq, Repr

/-- Why the model gives a step no meaning. A refused request is not among them: it is dropped, the
machine goes on, and the refusal is recorded in the state (44_facade.md R253; log 1). -/
inductive Refusal where
  /-- An instruction not modelled yet, by its mnemonic. No arm raises it. Safe. -/
  | notModelled (mnemonic : String)
  /-- Raised by the RX agent's turn: a byte arrives while RXQ holds RX_CAP bytes, under the parameter
  value that refuses such an arrival (10_state.md R40, decision D31; log 12). Safe. -/
  | rxOverflow
  deriving DecidableEq, Repr

/-- Everything the spec gives the machine. -/
structure State where
  /-- PHASE (R22). -/
  phase : Phase
  /-- STATUS (R24). -/
  status : Status
  /-- OK (R25). -/
  ok : Bool
  /-- OPENED (R27). -/
  opened : Bool
  /-- BEGUN (R28). -/
  begun : Bool
  /-- DIST (R30). -/
  dist : Word16
  /-- FLUX (R31). -/
  flux : Word16
  /-- TEMP (R32). -/
  temp : Word16
  /-- FRAME[0..8] (R33). -/
  frame : Vector Byte 9
  /-- REPLY[0..REPLY_MAX-1] (R34). -/
  reply : Vector Byte 11
  /-- RLEN (R34). -/
  rlen : Byte
  /-- VER[0..2] (R35). -/
  ver : Vector Byte 3
  /-- CUR_CMD (R36). -/
  curCmd : CmdWord
  /-- The output done: it pulses when an operation completes (R46, R256). -/
  done : Bool
  /-- The output req_refused: it pulses when a request is refused (R46, R253). -/
  reqRefused : Bool
  /-- The refusal mark, with the reason of the latest refusal (R253). -/
  refusalMark : Option RefuseReason
  /-- The outputs rx_pop to tmr_sel, as the step just taken drove them (R46). -/
  strobes : Strobes
  /-- TMR (R43). -/
  tmr : Timer
  /-- TMR_EXP (R43). -/
  tmrExp : Bool
  /-- TMR_POLLS (R43). -/
  tmrPolls : Nat
  /-- RXQ, oldest byte first (R40). -/
  rxq : List Byte
  /-- TXQ, oldest byte first (R42). -/
  txq : List Byte
  /-- WIRE, in the order sent (R42). -/
  wire : List Byte
  /-- The input req_valid (R45, R46). -/
  reqValid : Bool
  /-- The input req_word (R45, R46). -/
  reqWord : ReqWord
  /-- The input xport_ok (R44, R46). -/
  xportOk : Bool
  /-- The input rd_idx (R46, R76). -/
  rdIdx : Byte
  /-- The build's parameters (R7), which no step writes. -/
  cfg : Params
  /-- The model's own: the agents' next turns, consumed one a step (log 3). -/
  sched : List Event
  /-- The model's own: how many turns were taken from the free value (log 3). -/
  tick : Nat
  deriving DecidableEq, Repr

/-- The state at power-on, with the input bytes the spec leaves to the model's argument (R340, R40). -/
def State.powerOn (rxq : List Byte) : State where
  phase       := .idle
  status      := .ready
  ok          := false
  opened      := false
  begun       := false
  dist        := 0
  flux        := 0
  temp        := 0
  frame       := Vector.replicate 9 0
  reply       := Vector.replicate 11 0
  rlen        := 0
  ver         := Vector.replicate 3 0
  curCmd      := 0
  done        := false
  reqRefused  := false
  refusalMark := none
  strobes     := {}
  tmr         := .none
  tmrExp      := false
  tmrPolls    := 0
  rxq         := rxq
  txq         := []
  wire        := []
  reqValid    := false
  reqWord     := 0
  xportOk     := false
  rdIdx       := 0
  cfg         := {}
  sched       := []
  tick        := 0

/-- The machine right after reset (R340), with nothing waiting in RXQ. DESIGN CHOICE: log 8, log 9. -/
def State.reset : State := State.powerOn []

end Sys2Proof.Machine
end

