-- ==== Sys2Proof/Machine/Flags.lean ====
section
/-! DEFINITION. STATUS, OK and the values derived from them (spec/10_state.md R22 to R29,
41_frame.md R151, 60_exceptions.md R301, R303). The core has no other flag (R38). -/

namespace Sys2Proof.Machine

/-- The 4-bit code of a status (R24, decision D4). -/
def Status.code : Status → BitVec 4
  | .ready           => 0
  | .serialError     => 1
  | .headerTimeout   => 2
  | .checksumFailure => 3
  | .timeout         => 4
  | .commandFailed   => 5
  | .weakSignal      => 6
  | .strongSignal    => 7
  | .floodSignal     => 8
  | .i2c0            => 9
  | .i2c1            => 10
  | .i2c2            => 11

/-- Whether some operation produces the status: not TIMEOUT and not the I2C variants (R24, R301). -/
def Status.produced : Status → Bool
  | .timeout | .i2c0 | .i2c1 | .i2c2 => false
  | .ready | .serialError | .headerTimeout | .checksumFailure | .commandFailed | .weakSignal
  | .strongSignal | .floodSignal => true

/-- The source's outcome categories (R24, R303). -/
inductive Category where
  | success
  | transportUnavailable
  | headerTimeout
  | checksumMismatch
  | deviceReportedFailure
  | signalQuality
  deriving DecidableEq, Repr

/-- The category of a status; none for the statuses no operation gives (R303). -/
def Status.category : Status → Option Category
  | .ready           => some .success
  | .serialError     => some .transportUnavailable
  | .headerTimeout   => some .headerTimeout
  | .checksumFailure => some .checksumMismatch
  | .commandFailed   => some .deviceReportedFailure
  | .weakSignal | .strongSignal | .floodSignal => some .signalQuality
  | .timeout | .i2c0 | .i2c1 | .i2c2 => none

/-- The 2-bit code of a phase (R22). -/
def Phase.code : Phase → BitVec 2
  | .idle     => 0
  | .gdSync   => 1
  | .scSync   => 2
  | .bgSettle => 3

/-- The 2-bit code of a mode (R76). -/
def Mode.code : Mode → BitVec 2
  | .uninitialized => 0
  | .ready         => 1
  | .degraded      => 2

/-- The boolean result of a completion: `OK <- (s = READY)` (R25). -/
def okOf (s : Status) : Bool := s == .ready

/-- BUSY, which is `PHASE != IDLE` (R23). -/
def State.busy (s : State) : Bool := s.phase != .idle

/-- The output req_ready, which is `PHASE = IDLE` (R45, R46). -/
def State.reqReady (s : State) : Bool := s.phase == .idle

/-- MODE (R29). -/
def State.mode (s : State) : Mode :=
  if !s.begun then .uninitialized
  else if s.status = .ready then .ready
  else .degraded

/-- The status of a checksum-valid frame: the first case that holds, on the signed readings (R151,
decisions D11 and D14). -/
def override (dist flux : Word16) : Status :=
  if s16 dist = -1 then .weakSignal
  else if s16 flux = -1 then .strongSignal
  else if s16 dist = -4 then .floodSignal
  else .ready

end Sys2Proof.Machine
end

