-- ==== Sys2Proof/Machine/Ops.lean ====
section
/-! DEFINITION. The named operations over the state: the transport and timer primitives
(spec/10_state.md R40 to R43), each driving its output of the interface (R46), `complete` and the refusal of a request (44_facade.md R253, R256), the core
reset (70_reset_and_hazards.md R341) and the host read view (20_memory.md R76). The core takes no
exception: `complete` is its only way of reporting an event (60_exceptions.md R300, R311). -/

namespace Sys2Proof.Machine

/-- `RxCount()`, the output rx_count (R40, R46). -/
def State.rxCount (s : State) : Nat := s.rxq.length

/-- The input rx_data: the oldest waiting byte, when there is one (R40, R46). -/
def State.rxData (s : State) : Option Byte := s.rxq.head?

/-- `RxPop()`: the oldest waiting byte and the state without it; none where no byte waits (R41). -/
def State.rxPop (s : State) : Option (Byte × State) :=
  match s.rxq with
  | b :: rest => some (b, { s with rxq := rest, strobes := { s.strobes with rxPop := true } })
  | []        => none

/-- `RxDiscardOldest(n)` (R41). -/
def State.rxDiscardOldest (s : State) (n : Nat) : State :=
  { s with rxq := s.rxq.drop n, strobes := { s.strobes with rxDiscard := n } }

/-- `RxFlush()` (R41). -/
def State.rxFlush (s : State) : State :=
  { s with rxq := [], strobes := { s.strobes with rxFlush := true } }

/-- `TxFlush()` (R42). -/
def State.txFlush (s : State) : State :=
  { s with txq := [], strobes := { s.strobes with txFlush := true } }

/-- `TxWrite(P)`, in one step (R42). -/
def State.txWrite (s : State) (P : List Byte) : State :=
  { s with txq := s.txq ++ P, strobes := { s.strobes with txWrite := true, txData := P } }

/-- `TimerStart(T)` (R43). -/
def State.timerStart (s : State) (T : Timer) : State :=
  { s with tmr := T, tmrExp := false, tmrPolls := 0,
           strobes := { s.strobes with tmrStart := true, tmrSel := T } }

/-- A poll iteration's count, `TMR_POLLS <- TMR_POLLS + 1` (R43, R144). -/
def State.countPoll (s : State) : State := { s with tmrPolls := s.tmrPolls + 1 }

/-- `Expired()` (R43). -/
def State.expired (s : State) : Bool := s.tmrExp

/-- `complete(s)`: end the running operation with a status (R256). TMR_EXP and TMR_POLLS are not
written (log 27). -/
def State.complete (s : State) (st : Status) : State :=
  { s with status := st, ok := okOf st, tmr := .none, phase := .idle, done := true }

/-- The refusal of a request: req_refused pulses, the mark is set, and no register of the core and no
part of its environment changes (R253). DEDUCED: a next state, since the machine goes on (log 1). -/
def State.refuse (s : State) (r : RefuseReason) : State :=
  { s with reqRefused := true, refusalMark := some r }

/-- The port takes the request it holds: it is accepted or dropped in this step (R45, R253). DEDUCED:
log 7. -/
def State.takeRequest (s : State) : State := { s with reqValid := false }

/-- The core reset: the core registers, the timer and the outputs take their reset values; the
transport queues and the input ports are not touched (R341). The mark goes too: log 2. -/
def State.coreReset (s : State) : State :=
  { State.powerOn s.rxq with
    txq := s.txq, wire := s.wire, reqValid := s.reqValid, reqWord := s.reqWord,
    xportOk := s.xportOk, rdIdx := s.rdIdx, cfg := s.cfg, sched := s.sched, tick := s.tick }

/-- Index 0x01 of the read view: MODE 7:6, PHASE 5:4, BEGUN 3, OPENED 2, BUSY 1, OK 0 (R76). -/
def State.flagsByte (s : State) : Byte :=
  s.mode.code ++ s.phase.code ++ BitVec.ofBool s.begun ++ BitVec.ofBool s.opened ++
    BitVec.ofBool s.busy ++ BitVec.ofBool s.ok

/-- One byte of the host read view; a reserved index reads 0 (R76). -/
def State.readByte (s : State) (idx : Byte) : Byte :=
  let i := idx.toNat
  if i = 0x00 then s.status.code.setWidth 8
  else if i = 0x01 then s.flagsByte
  else if i = 0x02 then loByte s.dist
  else if i = 0x03 then hiByte s.dist
  else if i = 0x04 then loByte s.flux
  else if i = 0x05 then hiByte s.flux
  else if i = 0x06 then loByte s.temp
  else if i = 0x07 then hiByte s.temp
  else if i ≤ 0x10 then s.frame.toList.getD (i - 0x08) 0
  else if i = 0x11 then s.rlen
  else if i ≤ 0x14 then s.ver.toList.getD (i - 0x12) 0
  else if i < 0x20 then 0
  else s.reply.toList.getD (i - 0x20) 0

/-- The output rd_data, the byte at the index the host drives (R46, R76). -/
def State.rdData (s : State) : Byte := s.readByte s.rdIdx

/-- `MemRead(idx, n)`: the bytes at indices `idx..idx+n-1` (R11, R76); none where that runs past the
last index 0xFF (log 20). -/
def State.memRead (s : State) (idx : Byte) (n : Nat) : Option (List Byte) :=
  if idx.toNat + n ≤ 256 then
    some ((List.range n).map fun k => s.readByte (BitVec.ofNat 8 (idx.toNat + k)))
  else none

end Sys2Proof.Machine
end

