-- ==== Sys2Proof/Machine/Port.lean ====
section
/-! DEFINITION. The request port's tests (spec/44_facade.md R251 to R253, 60_exceptions.md R304): which
requests are refused and why, and what a request does that the port turns away. -/

namespace Sys2Proof.Machine

/-- How a meaning ends. -/
abbrev Result := Host.Outcome State Fault Refusal

/-- The tests of SEND_COMMAND after NOT_OPEN, on its word and parameter (R252). -/
def checkWord (t : CmdTable) (cmd : CmdWord) (p : Param) : Option RefuseReason :=
  if (cmdCl cmd).toNat < 3 ∨ 8 < (cmdCl cmd).toNat then some .cmdLen
  else if (cmdRl cmd = 1 ∨ cmdRl cmd = 2) ∨ Config.replyMax < (cmdRl cmd).toNat then some .replyLen
  else if cmd = t.word .setFrameRate ∧ paramHi p ≠ 0 then some .paramRange
  else none

/-- The test of an operation that needs an open transport (R252). -/
def checkOpen (s : State) : Option RefuseReason := if s.opened then none else some .notOpen

/-- The tests of SEND_COMMAND, NOT_OPEN first (R252, R305). -/
def checkSend (cmd : CmdWord) (p : Param) (s : State) : Option RefuseReason :=
  if s.opened then checkWord s.cfg.table cmd p else some .notOpen

/-- `check(REQ)` as R252 writes it, on the request word itself: the first reason that applies. -/
def checkRequest (t : CmdTable) (opened : Bool) (w : ReqWord) : Option RefuseReason :=
  if reqOp w = 0 then some .noOp
  else if reqRsv w ≠ 0 then some .rsvBits
  else if (reqOp w = 2 ∨ reqOp w = 3) ∧ opened = false then some .notOpen
  else if reqOp w = 3 then checkWord t (reqCmd w) (reqParam w)
  else none

/-- A request at the port. While an operation runs, the port is not ready and the request waits
(R45; log 15); a request with no meaning is refused (R253); any other is accepted, and `accept` is
its acceptance step (R251). -/
def request (reason : State → Option RefuseReason) (accept : State → State) (s : State) : Result :=
  if s.phase = .idle then
    match reason s with
    | some r => .next (s.refuse r)
    | none   => .next (accept s)
  else .next s

/-- The meaning of the reserved encoding OP = 0: refused with NO_OP in every state (R252, R304). -/
def execReservedOp0 (_rest : BitVec 62) (s : State) : Result := request (fun _ => some .noOp) id s

end Sys2Proof.Machine
end

