-- ==== Sys2Proof/Machine/Begin.lean ====
section
/-! DEFINITION. BEGIN: the acceptance step and the poll iteration (spec/44_facade.md R259 to R263). -/

namespace Sys2Proof.Machine

/-- BEGIN's completion: BEGUN is set whatever the status (R262). -/
def State.completeBegin (s : State) (st : Status) : State := { s with begun := true }.complete st

/-- BEGIN acceptance (R260): OPENED samples XPORT_OK; a transport that did not open completes at
once. -/
def acceptBegin (s : State) : State :=
  let s := { s with opened := s.xportOk }
  if s.xportOk then { s.timerStart .settle with phase := .bgSettle }
  else s.completeBegin .serialError

/-- BEGIN poll iteration (R261): once the settle delay is over, any waiting byte is the sign of life,
and none is consumed. -/
def pollBegin (s : State) : State :=
  let s := s.countPoll
  if s.expired then
    if 0 < s.rxCount then s.completeBegin .ready else s.completeBegin .serialError
  else s

/-- The meaning of BEGIN (R259): PARAM and CMD are ignored, and it needs no open transport. -/
def execBegin (_param : Param) (_cmd : CmdWord) (s : State) : Result :=
  request (fun _ => none) acceptBegin s

end Sys2Proof.Machine
end

