-- ==== Sys2Proof/Machine/SendCommand.lean ====
section
/-! DEFINITION. SEND_COMMAND: transmission, the reply synchronizer and the reply decoder
(spec/42_command_codec.md R195 to R209), and the meaning of a generic word (43_commands.md R235). -/

namespace Sys2Proof.Machine

/-- Both flushes and the packet write, in one step (R197). -/
def State.transmit (s : State) (P : List Byte) : State := (s.rxFlush.txFlush).txWrite P

/-- SEND_COMMAND acceptance (R196): latch the word, transmit; a reply length of 0 completes at once
(R199), any other zeroes the window and starts the search (R200). -/
def acceptSend (cmd : CmdWord) (p : Param) (s : State) : State :=
  let e := encodePacket s.cfg.table cmd p
  let s := { s with curCmd := cmd }.transmit e.packet
  if e.rl = 0 then s.complete .ready
  else { s.timerStart .deadline with
         reply := Vector.replicate 11 0, rlen := e.rl, phase := .scSync }

/-- The shift of one poll iteration: pop the oldest waiting byte, if there is one, into the reply
window in use (R201, R202). -/
def State.receiveReplyByte (s : State) : State :=
  match s.rxPop with
  | some (b, s) => { s with reply := shiftReply s.reply s.rlen.toNat b }
  | none        => s

/-- Whether the running command is a reset or save command, whose reply can report a failure (R205,
R207). -/
def State.failureChecked (s : State) : Bool :=
  s.curCmd == s.cfg.table.word .softReset || s.curCmd == s.cfg.table.word .hardReset ||
    s.curCmd == s.cfg.table.word .saveSettings

/-- Post-processing of a checksum-valid reply, the cases in R205's order: the version copy (R206), the
device-reported failure (R207), success (R208). -/
def State.postProcess (s : State) : State :=
  if s.curCmd = s.cfg.table.word .getFirmwareVersion then
    { s with ver := #v[s.reply[3], s.reply[4], s.reply[5]] }.complete .ready
  else if s.failureChecked && s.reply[3] == 1 then s.complete .commandFailed
  else s.complete .ready

/-- SEND_COMMAND poll iteration (R202): shift, then the header test, then the checksum and the
post-processing, then the deadline. -/
def pollSend (s : State) : State :=
  let s := s.countPoll.receiveReplyByte
  if replyHeader s.reply s.rlen then
    if replyValid s.reply s.rlen.toNat then s.postProcess
    else s.complete .checksumFailure
  else if s.expired then s.complete .headerTimeout
  else s

/-- SEND_COMMAND on a word and a parameter (R195). -/
def sendCommand (cmd : CmdWord) (p : Param) (s : State) : Result :=
  request (checkSend cmd p) (acceptSend cmd p) s

/-- SEND_COMMAND with a word of the build's table (R99). -/
def sendNamed (c : Cmd) (p : Param) (s : State) : Result := sendCommand (s.cfg.table.word c) p s

/-- The meaning of SEND_COMMAND with a generic word (R101, R235). A word equal to a table word is that
command, with its special treatment if it has one. -/
def execSendGeneric (cmd : CmdWord) (param : Param) (s : State) : Result := sendCommand cmd param s

end Sys2Proof.Machine
end

