-- ==== Sys2Proof/Machine/Commands.lean ====
section
/-! DEFINITION. The meanings of the 15 named commands (spec/43_commands.md R220 to R234): each is
SEND_COMMAND with the word CMD_TABLE gives it. The lengths and packets in the comments are those of
the source's length table. -/

namespace Sys2Proof.Machine

/-- GET_FIRMWARE_VERSION (R220): `5A 04 ID chk`, a 7-byte reply, and the version copy (R206). -/
def execGetFirmwareVersion (param : Param) (s : State) : Result := sendNamed .getFirmwareVersion param s

/-- TRIGGER_DETECTION (R221): `5A 04 ID chk`, no reply: it completes in its acceptance step (R199). -/
def execTriggerDetection (param : Param) (s : State) : Result := sendNamed .triggerDetection param s

/-- SOFT_RESET (R222): `5A 04 ID chk`, a 5-byte reply, and the failure check (R207). -/
def execSoftReset (param : Param) (s : State) : Result := sendNamed .softReset param s

/-- HARD_RESET (R223): `5A 04 ID chk`, a 5-byte reply, and the failure check (R207). -/
def execHardReset (param : Param) (s : State) : Result := sendNamed .hardReset param s

/-- SAVE_SETTINGS (R224): `5A 04 ID chk`, a 5-byte reply, and the failure check (R207). -/
def execSaveSettings (param : Param) (s : State) : Result := sendNamed .saveSettings param s

/-- SET_FRAME_RATE (R225): `5A 06 ID Lo Hi chk` and a 6-byte reply; a rate above 0xFFFF is refused with PARAM_RANGE. -/
def execSetFrameRate (param : Param) (s : State) : Result := sendNamed .setFrameRate param s

/-- SET_BAUD_RATE (R226): `5A 08 ID Lo Mid Hi 00 chk` and an 8-byte reply; the rate is not checked. -/
def execSetBaudRate (param : Param) (s : State) : Result := sendNamed .setBaudRate param s

/-- STANDARD_FORMAT_CM (R227): `5A 05 ID ARG chk` and a 5-byte reply. -/
def execStandardFormatCm (param : Param) (s : State) : Result := sendNamed .standardFormatCm param s

/-- STANDARD_FORMAT_MM (R228): `5A 05 ID ARG chk` and a 5-byte reply. -/
def execStandardFormatMm (param : Param) (s : State) : Result := sendNamed .standardFormatMm param s

/-- PIXHAWK_FORMAT (R229): `5A 05 ID ARG chk` and a 5-byte reply. -/
def execPixhawkFormat (param : Param) (s : State) : Result := sendNamed .pixhawkFormat param s

/-- ENABLE_OUTPUT (R230): `5A 05 ID ARG chk` and a 5-byte reply. -/
def execEnableOutput (param : Param) (s : State) : Result := sendNamed .enableOutput param s

/-- DISABLE_OUTPUT (R231): `5A 05 ID ARG chk` and a 5-byte reply. -/
def execDisableOutput (param : Param) (s : State) : Result := sendNamed .disableOutput param s

/-- SET_I2C_ADDRESS (R232): `5A 05 ID ARG chk` and an 11-byte reply; the address sent is ARG. -/
def execSetI2cAddress (param : Param) (s : State) : Result := sendNamed .setI2cAddress param s

/-- SET_SERIAL_MODE (R233): `5A 05 ID ARG chk` and a 10-byte reply. -/
def execSetSerialMode (param : Param) (s : State) : Result := sendNamed .setSerialMode param s

/-- SET_I2C_MODE (R234): `5A 05 ID ARG chk` and a 10-byte reply. -/
def execSetI2cMode (param : Param) (s : State) : Result := sendNamed .setI2cMode param s

end Sys2Proof.Machine
end

