-- ==== Sys2Proof/Machine/GetData.lean ====
section
/-! DEFINITION. GET_DATA: the frame synchronizer and the frame decoder (spec/41_frame.md R140 to R152). -/

namespace Sys2Proof.Machine

/-- GET_DATA acceptance (R142): a zeroed window, the drain down to the newest DRAIN_KEEP bytes, the
deadline, the search. -/
def acceptGetData (s : State) : State :=
  let s := { s with frame := Vector.replicate 9 0 }
  let n := s.rxCount
  let s := if Config.drainKeep < n then s.rxDiscardOldest (n - Config.drainKeep) else s
  { s.timerStart .deadline with phase := .gdSync }

/-- The shift of one poll iteration: pop the oldest waiting byte, if there is one, into the window
(R143, R144). -/
def State.receiveFrameByte (s : State) : State :=
  match s.rxPop with
  | some (b, s) => { s with frame := shiftFrame s.frame b }
  | none        => s

/-- The frame decoder (R149, R150). -/
def State.decodeFrame (s : State) : State :=
  { s with dist := frameDist s.frame, flux := frameFlux s.frame,
           temp := tempOf (frameRawTemp s.frame) }

/-- GET_DATA poll iteration (R144): shift, then the header test, then the checksum, then the
deadline. -/
def pollGetData (s : State) : State :=
  let s := s.countPoll.receiveFrameByte
  if headerMatch s.frame then
    if frameValid s.frame then
      let s := s.decodeFrame
      s.complete (override s.dist s.flux)
    else s.complete .checksumFailure
  else if s.expired then s.complete .headerTimeout
  else s

/-- The meaning of GET_DATA (R141): PARAM and CMD are ignored, and it needs an open transport. -/
def execGetData (_param : Param) (_cmd : CmdWord) (s : State) : Result :=
  request checkOpen acceptGetData s

end Sys2Proof.Machine
end

