-- ==== Sys2Proof/Machine/Dispatch.lean ====
section
/-! DEFINITION. One arm per request: the meaning it calls. -/

namespace Sys2Proof.Machine

def exec (i : Instr) (s : State) : Host.Outcome State Fault Refusal :=
  match i with
  | .beginOp param cmd => Sys2Proof.Machine.execBegin param cmd s
  | .getData param cmd => Sys2Proof.Machine.execGetData param cmd s
  | .getFirmwareVersion param => Sys2Proof.Machine.execGetFirmwareVersion param s
  | .triggerDetection param => Sys2Proof.Machine.execTriggerDetection param s
  | .softReset param => Sys2Proof.Machine.execSoftReset param s
  | .hardReset param => Sys2Proof.Machine.execHardReset param s
  | .saveSettings param => Sys2Proof.Machine.execSaveSettings param s
  | .setFrameRate param => Sys2Proof.Machine.execSetFrameRate param s
  | .setBaudRate param => Sys2Proof.Machine.execSetBaudRate param s
  | .standardFormatCm param => Sys2Proof.Machine.execStandardFormatCm param s
  | .standardFormatMm param => Sys2Proof.Machine.execStandardFormatMm param s
  | .pixhawkFormat param => Sys2Proof.Machine.execPixhawkFormat param s
  | .enableOutput param => Sys2Proof.Machine.execEnableOutput param s
  | .disableOutput param => Sys2Proof.Machine.execDisableOutput param s
  | .setI2cAddress param => Sys2Proof.Machine.execSetI2cAddress param s
  | .setSerialMode param => Sys2Proof.Machine.execSetSerialMode param s
  | .setI2cMode param => Sys2Proof.Machine.execSetI2cMode param s
  | .sendGeneric cmd param => Sys2Proof.Machine.execSendGeneric cmd param s
  | .reservedOp0 rest => Sys2Proof.Machine.execReservedOp0 rest s

end Sys2Proof.Machine
end

