-- ==== Sys2Proof/Machine/Sequencer.lean ====
section
/-! DEFINITION. The turns of the five agents (spec/10_state.md R20, R40 to R48): the core accepts a request
or polls; the transport, the timer and the host act between the core's steps (60_exceptions.md R308).
An agent whose turn it is while none of its steps is enabled does nothing (log 4). -/

namespace Sys2Proof.Machine

/-- One poll iteration of the running operation (R47). -/
def poll (s : State) : State :=
  match s.phase with
  | .idle     => s
  | .gdSync   => pollGetData s
  | .scSync   => pollSend s
  | .bgSettle => pollBegin s

/-- The acceptance step of the request at the port (R251): taken, decoded and run, or refused by
name. -/
def acceptRequest (s : State) : Result :=
  match decode s.cfg.table s.reqWord with
  | .error r => .next (s.takeRequest.refuse r)
  | .ok i    => exec i s.takeRequest

/-- CORE's turn: in IDLE it accepts the request presented, if there is one, and otherwise it runs one
poll iteration (R45, R47). -/
def coreTurn (s : State) : Result :=
  if s.phase = .idle then
    if s.reqValid then acceptRequest s else .next s
  else .next (poll s)

/-- RX's turn: append one byte to RXQ (R40). An arrival on a full buffer is the parameter's
(decision D31). -/
def rxTurn (b : Byte) (s : State) : Result :=
  match s.cfg.rxCap with
  | none => .next { s with rxq := s.rxq ++ [b] }
  | some cap =>
    if s.rxCount < cap then .next { s with rxq := s.rxq ++ [b] }
    else match s.cfg.rxFull with
      | .refuse     => .refused .rxOverflow
      | .dropNewest => .next s
      | .dropOldest => .next { s with rxq := (s.rxq ++ [b]).drop (s.rxCount + 1 - cap) }

/-- TXD's turn: move the oldest unsent byte to the wire (R42). -/
def txdTurn (s : State) : State :=
  match s.txq with
  | []        => s
  | b :: rest => { s with txq := rest, wire := s.wire ++ [b] }

/-- Whether the TIMER agent may set TMR_EXP (R43). -/
def State.timerEnabled (s : State) : Bool :=
  s.tmr != .none && (decide (s.cfg.deadlineMinPolls ≤ s.tmrPolls) || s.tmr == .settle)

/-- TIMER's turn: the running timer expires, when it may (R43). -/
def timerTurn (s : State) : State := if s.timerEnabled then { s with tmrExp := true } else s

/-- The host's attempt to write the read view: it has no meaning, nothing changes but the mark (R76,
decision D26; log 13). -/
def hostWriteTurn (s : State) : State := { s with refusalMark := some .readViewWrite }

/-- Whether a turn is an enabled step of its agent (R48): CORE's as R45 and R47 say, TXD's as R42, TIMER's
as R43. An arrival (R40) and a move of the host are so at any moment. -/
def State.enabled (s : State) (e : Event) : Bool :=
  match e with
  | .core  => s.phase != .idle || s.reqValid
  | .txd   => !s.txq.isEmpty
  | .timer => s.timerEnabled
  | .rx _ | .hostRequest _ | .hostXport _ | .hostRead _ | .hostWrite _ _ | .hostReset => true

/-- The turn of one agent (R20). -/
def turn (e : Event) (s : State) : Result :=
  match e with
  | .core             => coreTurn s
  | .rx b             => rxTurn b s
  | .txd              => .next (txdTurn s)
  | .timer            => .next (timerTurn s)
  | .hostRequest w    => .next { s with reqValid := true, reqWord := w }
  | .hostXport isOpen => .next { s with xportOk := isOpen }
  | .hostRead idx     => .next { s with rdIdx := idx }
  | .hostWrite _ _    => .next (hostWriteTurn s)
  | .hostReset        => .next s.coreReset

/-- Whose turn is next: the state's own schedule, and after it the free value (R48; log 3). -/
def State.nextEvent (s : State) : Event :=
  match s.sched with
  | e :: _ => e
  | []     => Config.freeEvent s.tick

/-- The start of every step: the turn is consumed, and what the step before pulsed or drove is over (R46;
log 6). -/
def State.startStep (s : State) : State :=
  match s.sched with
  | _ :: rest => { s with sched := rest, done := false, reqRefused := false, strobes := {} }
  | []        => { s with tick := s.tick + 1, done := false, reqRefused := false, strobes := {} }

/-- A request presented to an idle core, and the core's turn next (R45; log 18). -/
def State.present (s : State) (w : ReqWord) : State :=
  { s with phase := .idle, reqValid := true, reqWord := w, sched := .core :: s.sched }

end Sys2Proof.Machine
end

