-- ==== Sys2Proof/Machine/Step.lean ====
section
/-! DEFINITION. One step of the machine, which is the turn of one agent (spec/10_state.md R20, R47), and
how a request is placed for the next step (log 18). -/

namespace Sys2Proof.Machine

/-- One step: the next agent takes its turn. -/
def step (s : State) : Host.Outcome State Fault Refusal := turn s.nextEvent s.startStep

/-- The state with an instruction of the opcode table presented at the port, so that the next step
accepts it. The core fetches nothing (20_memory.md R83): the host presents requests. -/
def State.withFetchWord (s : State) (nbits w : Nat) : State := s.present (tableWord nbits w)

end Sys2Proof.Machine
end

