-- ==== Sys2Proof/Machine/Assembler.lean ====
section
/-! DEFINITION. Operation scripts: the assembler syntax and its pseudo-instructions
(spec/30_encoding.md R104, R105). The host runs a script one request at a time; nothing here is part of
the core. -/

namespace Sys2Proof.Machine

/-- One line of a script. -/
inductive Line where
  /-- `BEGIN` -/
  | beginLine
  /-- `GETDATA` -/
  | getDataLine
  /-- `SENDCMD <mnemonic>` with its parameter, 0 where none is written. -/
  | sendCmd (c : Cmd) (n : Nat)
  /-- `SENDCMD #<word>` with its parameter. -/
  | sendWord (word n : Nat)
  /-- `SETFPS <n>` -/
  | setFps (n : Nat)
  /-- `SETBAUD <n>` -/
  | setBaud (n : Nat)
  /-- `TRIGGER` -/
  | trigger
  /-- `GETVERSION` -/
  | getVersion
  /-- `RETRY <line>` -/
  | retry (l : Line)
  deriving DecidableEq, Repr

/-- The line a pseudo-instruction expands to (R105). RETRY adds nothing to the request it repeats. -/
def Line.expand : Line → Line
  | .setFps n    => .sendCmd .setFrameRate n
  | .setBaud n   => .sendCmd .setBaudRate n
  | .trigger     => .sendCmd .triggerDetection 0
  | .getVersion  => .sendCmd .getFirmwareVersion 0
  | .retry l     => l.expand
  | .beginLine   => .beginLine
  | .getDataLine => .getDataLine
  | .sendCmd c n => .sendCmd c n
  | .sendWord w n => .sendWord w n

/-- `(word << 32) | (n << 8) | 3`, for `0 <= n < 2^24` and a 32-bit word (R104). -/
def assembleSend (word n : Nat) : Option ReqWord :=
  if word < 2 ^ 32 ∧ n < 2 ^ 24 then some (BitVec.ofNat 64 (word * 2 ^ 32 + n * 2 ^ 8 + 3)) else none

/-- The request a line assembles to; none where a number does not fit its field (R104, R105). -/
def assemble (t : CmdTable) (l : Line) : Option ReqWord :=
  match l.expand with
  | .beginLine    => some 1
  | .getDataLine  => some 2
  | .sendCmd c n  => assembleSend (t.word c).toNat n
  | .sendWord w n => assembleSend w n
  | .setFps _ | .setBaud _ | .trigger | .getVersion | .retry _ => none

/-- What is left of a script after a completion with the given OK: RETRY issues its line again until a
completion with OK = 1, any other line is done (R105). -/
def afterCompletion (script : List Line) (ok : Bool) : List Line :=
  match script with
  | []             => []
  | .retry l :: rest => if ok then rest else .retry l :: rest
  | _ :: rest      => rest

/-- The mnemonic of a named command in a script (R99, R104). -/
def Cmd.mnemonic : Cmd → String
  | .getFirmwareVersion => "GET_FIRMWARE_VERSION"
  | .triggerDetection   => "TRIGGER_DETECTION"
  | .softReset          => "SOFT_RESET"
  | .hardReset          => "HARD_RESET"
  | .saveSettings       => "SAVE_SETTINGS"
  | .setFrameRate       => "SET_FRAME_RATE"
  | .setBaudRate        => "SET_BAUD_RATE"
  | .standardFormatCm   => "STANDARD_FORMAT_CM"
  | .standardFormatMm   => "STANDARD_FORMAT_MM"
  | .pixhawkFormat      => "PIXHAWK_FORMAT"
  | .enableOutput       => "ENABLE_OUTPUT"
  | .disableOutput      => "DISABLE_OUTPUT"
  | .setI2cAddress      => "SET_I2C_ADDRESS"
  | .setSerialMode      => "SET_SERIAL_MODE"
  | .setI2cMode         => "SET_I2C_MODE"

/-- The tokens of a line: `;` starts a comment, a comma is a token, spaces separate (R104). `word` holds
the token being read, last character first. -/
def tokens : List Char → List Char → List String
  | word, [] => if word.isEmpty then [] else [String.ofList word.reverse]
  | word, c :: rest =>
    let here := if word.isEmpty then [] else [String.ofList word.reverse]
    if c = ';' then here
    else if c = ',' then here ++ "," :: tokens [] rest
    else if c = ' ' then here ++ tokens [] rest
    else tokens (c :: word) rest

/-- The value of a digit in a base; none for another character. -/
def digit? (base : Nat) (c : Char) : Option Nat :=
  let n := c.toNat
  let v :=
    if 48 ≤ n ∧ n ≤ 57 then n - 48
    else if 65 ≤ n ∧ n ≤ 70 then n - 55
    else if 97 ≤ n ∧ n ≤ 102 then n - 87
    else base
  if v < base then some v else none

/-- The value of a run of digits, continuing from `acc`. -/
def digits? (base : Nat) : Nat → List Char → Option Nat
  | acc, []        => some acc
  | acc, c :: rest => (digit? base c).bind fun d => digits? base (acc * base + d) rest

/-- A number, decimal or hexadecimal with `0x` (R104). -/
def number? (w : List Char) : Option Nat :=
  match w with
  | []                 => none
  | '0' :: 'x' :: hex  => if hex.isEmpty then none else digits? 16 0 hex
  | c :: rest          => digits? 10 0 (c :: rest)

/-- The command word SENDCMD names: a mnemonic, or `#` and a literal word (R104). -/
def sendLine? (w : String) (n : Nat) : Option Line :=
  match w.toList with
  | '#' :: lit => (number? lit).map fun v => .sendWord v n
  | _          => (Cmd.all.find? fun c => Cmd.mnemonic c == w).map fun c => .sendCmd c n

/-- A line from its tokens (R104, R105); none where the syntax has no such line. -/
def lineOf? : List String → Option Line
  | "RETRY" :: rest => (lineOf? rest).map .retry
  | ["BEGIN"] => some .beginLine
  | ["GETDATA"] => some .getDataLine
  | ["TRIGGER"] => some .trigger
  | ["GETVERSION"] => some .getVersion
  | ["SETFPS", n] => (number? n.toList).map .setFps
  | ["SETBAUD", n] => (number? n.toList).map .setBaud
  | ["SENDCMD", w] => sendLine? w 0
  | ["SENDCMD", w, ",", n] => (number? n.toList).bind fun v => sendLine? w v
  | _ => none

/-- The line a text stands for; none where the syntax has no such line (R104, R105). -/
def parseLine (text : String) : Option Line := lineOf? (tokens [] text.toList)

end Sys2Proof.Machine
end

