-- ==== Sys2Proof/Safety.lean ====
section
/-! DEFINITION. What claims are stated in: the invariants of a run, what a completion and the end of a run
are (spec/44_facade.md R265), which runs are fair (10_state.md R43, R48), and the relation between states
that the independence claim uses (44_facade.md R254). -/

namespace Sys2Proof.Machine

/-- The timer runs exactly as the phase needs it (R142, R196, R260, R256). -/
abbrev State.TimerMatchesPhase (s : State) : Prop :=
  (s.phase = .idle → s.tmr = .none) ∧
  (s.phase = .gdSync ∨ s.phase = .scSync → s.tmr = .deadline) ∧
  (s.phase = .bgSettle → s.tmr = .settle)

/-- An expired deadline is not early: at least DEADLINE_MIN_POLLS poll iterations ran (R43). -/
abbrev State.DeadlineNotEarly (s : State) : Prop :=
  s.tmr = .deadline → s.tmrExp = true → s.cfg.deadlineMinPolls ≤ s.tmrPolls

/-- The reply window: its width is 0 or 3..REPLY_MAX, the bytes beyond it are 0, and while a reply is
awaited it is the running command's reply length (R34, R98, R200, R201). -/
abbrev State.ReplyWindow (s : State) : Prop :=
  (s.rlen = 0 ∨ 3 ≤ s.rlen.toNat ∧ s.rlen.toNat ≤ Config.replyMax) ∧
  (∀ i : Fin 11, s.rlen.toNat ≤ i.val → s.reply[i] = 0) ∧
  (s.phase = .scSync → s.rlen ≠ 0 ∧ s.rlen = cmdRl s.curCmd)

/-- A running search has not matched yet (R144, R202: a match completes the operation in its own
step). -/
abbrev State.SearchUnmatched (s : State) : Prop :=
  (s.phase = .gdSync → headerMatch s.frame = false) ∧
  (s.phase = .scSync → replyHeader s.reply s.rlen = false)

/-- An operation runs only on an open transport (R252, R260). -/
abbrev State.OpenWhileBusy (s : State) : Prop := s.phase ≠ .idle → s.opened = true

/-- After the first completion OK = 1 exactly when STATUS = READY (R26). Before it, which is before the
first BEGIN completes, both hold their reset values and only that BEGIN can run (R27, R28). -/
abbrev State.OkMatchesStatus (s : State) : Prop :=
  (s.begun = true → (s.ok = true ↔ s.status = .ready)) ∧
  (s.begun = false → s.status = .ready ∧ s.ok = false ∧ (s.phase = .idle ∨ s.phase = .bgSettle) ∧
    (s.opened = true → s.phase = .bgSettle))

/-- A signal status agrees with the measurement registers (R151, R301). -/
abbrev State.SignalMatchesMeasurement (s : State) : Prop :=
  (s.status = .weakSignal → s16 s.dist = -1) ∧
  (s.status = .strongSignal → s16 s.dist ≠ -1 ∧ s16 s.flux = -1) ∧
  (s.status = .floodSignal → s16 s.dist = -4 ∧ s16 s.flux ≠ -1)

/-- TEMP lies in -256..7935 (R32). -/
abbrev State.TempInRange (s : State) : Prop := -256 ≤ s16 s.temp ∧ s16 s.temp ≤ 7935

/-- RXQ keeps within RX_CAP, where the build has one (R40). -/
abbrev State.RxqWithinCap (s : State) : Prop := ∀ cap ∈ s.cfg.rxCap, s.rxq.length ≤ cap

/-- The invariant of every run: the clauses above, no reserved status (R24), and the done pulse only
with an idle core (R256). -/
abbrev State.Inv (s : State) : Prop :=
  s.TimerMatchesPhase ∧ s.DeadlineNotEarly ∧ s.ReplyWindow ∧ s.SearchUnmatched ∧ s.OpenWhileBusy ∧
  s.OkMatchesStatus ∧ s.SignalMatchesMeasurement ∧ s.TempInRange ∧ s.RxqWithinCap ∧
  s.status.produced = true ∧ (s.done = true → s.phase = .idle)

/-- The outputs of a SEND_COMMAND acceptance with its packet: both flushes and the write (R46, R197). -/
abbrev Strobes.send (o : Strobes) (P : List Byte) : Strobes :=
  { o with rxFlush := true, txFlush := true, txWrite := true, txData := P }

/-- The outputs of `TimerStart(T)` (R43, R46). -/
abbrev Strobes.start (o : Strobes) (T : Timer) : Strobes := { o with tmrStart := true, tmrSel := T }

/-- The outputs of a poll iteration that searches a window: rx_pop when a byte waits (R41, R46). -/
abbrev Strobes.pop (o : Strobes) (rxq : List Byte) : Strobes :=
  if rxq = [] then o else { o with rxPop := true }

/-- A completion's record: its STATUS and OK (R265). -/
structure Completion where
  status : Status
  ok : Bool
  deriving DecidableEq, Repr

/-- The completion of the step that led to this state, if it was one (R256, R265). -/
def State.completion? (s : State) : Option Completion :=
  if s.done then some ⟨s.status, s.ok⟩ else none

/-- `k` steps, with the completions on the way in order; none where a step stops. -/
def runTrace : Nat → State → Option (List Completion × State)
  | 0, s => some ([], s)
  | k + 1, s =>
    match step s with
    | .next t =>
      (runTrace k t).map fun r => (t.completion?.toList ++ r.1, r.2)
    | .fault _ | .refused _ => none

/-- The core registers (R21). -/
structure CoreRegs where
  phase : Phase
  status : Status
  ok : Bool
  opened : Bool
  begun : Bool
  dist : Word16
  flux : Word16
  temp : Word16
  frame : Vector Byte 9
  reply : Vector Byte 11
  rlen : Byte
  ver : Vector Byte 3
  curCmd : CmdWord
  deriving DecidableEq, Repr

/-- The core registers of a state. -/
def State.coreRegs (s : State) : CoreRegs where
  phase  := s.phase
  status := s.status
  ok     := s.ok
  opened := s.opened
  begun  := s.begun
  dist   := s.dist
  flux   := s.flux
  temp   := s.temp
  frame  := s.frame
  reply  := s.reply
  rlen   := s.rlen
  ver    := s.ver
  curCmd := s.curCmd

/-! ### The end of a run (R265) -/

/-- Whether the step from `s` to `t` takes the end from every run it is part of: the core is refused in
it, a host write is (R76, R253), or a core reset abandons the operation that runs (R265, R341). -/
def State.breaksRun (s t : State) : Bool :=
  t.reqRefused ||
    match s.nextEvent with
    | .hostWrite _ _ => true
    | .hostReset => s.phase != .idle
    | .core | .rx _ | .txd | .timer | .hostRequest _ | .hostXport _ | .hostRead _ => false

/-- The request that the core's next step takes from the port, if it is an acceptance step (R251). -/
def State.taken? (s : State) : Option ReqWord :=
  if s.nextEvent = .core ∧ s.phase = .idle ∧ s.reqValid = true then some s.reqWord else none

/-- The run of a script from `s`, which ends in the step that completes its last request (R265): the
completions in order and the state at the end. Every request taken is that of the script's current
line, and a completion moves the script on (R105). None where the run has no end within `k` steps. -/
def runScript : Nat → List Line → State → Option (List Completion × State)
  | _, [], s => some ([], s)
  | 0, _ :: _, _ => none
  | k + 1, l :: rest, s =>
    match step s with
    | .next t =>
      if s.breaksRun t || s.taken?.any (fun w => assemble s.cfg.table l != some w) then none
      else
        match t.completion? with
        | some c =>
          (runScript k (afterCompletion (l :: rest) c.ok) t).map fun r => (c :: r.1, r.2)
        | none => runScript k (l :: rest) t
    | .fault _ | .refused _ => none

/-- The observation of a run (R265). -/
structure Observation where
  completions : List Completion
  registers : CoreRegs
  output : List Byte
  remaining : List Byte
  deriving DecidableEq, Repr

/-- The observation of the run of a script from an idle core, if it ends within `k` steps; none for a run
with no end (R265). -/
def observe (k : Nat) (script : List Line) (s : State) : Option Observation :=
  if s.phase = .idle then
    (runScript k script s).map fun (cs, t) => ⟨cs, t.coreRegs, t.wire ++ t.txq, t.rxq⟩
  else none

/-! ### Endless runs and fairness (R43, R48) -/

/-- The turn `e` leads from `s` to `t`, whatever the scheduler's own fields hold: any agent with an
enabled step may take it (R48; log 3). -/
def State.MayStep (s : State) (e : Event) (t : State) : Prop :=
  ∃ sched tick, { s with sched := sched, tick := tick }.nextEvent = e ∧
    step { s with sched := sched, tick := tick } = .next t

/-- An endless run: the turns `e` lead through the states `r` (R20). -/
def IsRun (e : Nat → Event) (r : Nat → State) : Prop :=
  ∀ n, (r n).MayStep (e n) (r (n + 1))

/-- The core's fairness: a core that stays enabled eventually steps (R48). -/
def CoreFair (e : Nat → Event) (r : Nat → State) : Prop :=
  ∀ n, (∀ m, n ≤ m → (r m).enabled .core = true) → ∃ m, n ≤ m ∧ e m = .core

/-- The timer's fairness: while TMR != NONE, TMR_EXP is eventually set (R43, R316). -/
def TimerFair (r : Nat → State) : Prop :=
  ∀ n, (∀ m, n ≤ m → (r m).tmr ≠ .none) → ∃ m, n ≤ m ∧ (r m).tmrExp = true

/-- The runs of the hardware: those with the fairness of R43 and R48, and no other. Nothing obliges RX to
deliver a byte or TXD to send one. -/
structure FairRun (e : Nat → Event) (r : Nat → State) : Prop where
  isRun : IsRun e r
  core : CoreFair e r
  timer : TimerFair r

/-! ### Independence (R254) -/

/-- Two states that differ at most in what earlier operations left behind and no operation's outcome
reads (R254): STATUS, OK, BEGUN, the measurement registers, VER, the outputs and the refusal mark, TXQ
and WIRE, a window that the running operation does not search, and TMR_EXP and TMR_POLLS while no
operation runs (log 27). -/
structure State.SameButResults (s t : State) : Prop where
  phase : s.phase = t.phase
  opened : s.opened = t.opened
  frame : s.phase = .gdSync → s.frame = t.frame
  reply : s.phase = .scSync → s.reply = t.reply ∧ s.rlen = t.rlen ∧ s.curCmd = t.curCmd
  tmr : s.tmr = t.tmr
  timerState : s.phase ≠ .idle → s.tmrExp = t.tmrExp ∧ s.tmrPolls = t.tmrPolls
  rxq : s.rxq = t.rxq
  reqValid : s.reqValid = t.reqValid
  reqWord : s.reqWord = t.reqWord
  xportOk : s.xportOk = t.xportOk
  cfg : s.cfg = t.cfg
  sched : s.sched = t.sched
  tick : s.tick = t.tick

end Sys2Proof.Machine
end

