-- ==== Sys2Proof/Certificates/Slice0/Obligations.lean ====
section
/-! DEFINITION. The statements for the provers. A request's meaning is `exec`, a poll iteration is `coreTurn`
of a busy state, and `StepIsTheAgentsTurn` says how a step runs them. The parameters of the build are
`s.cfg`, so a statement about every state is about every build. `strobes` holds the outputs of R46 that a
step drives; that an undriven one is low, 0 or empty is log 21. Turns are named through the model's own
schedule `s.sched` (log 3). Rule numbers are those of spec/. -/

open Sys2Proof Sys2Proof.Machine

/-! ## Reset -/

/-- R340. The core registers, the timer and the outputs at power-on, whatever waits in RXQ, and the
same after a core reset, whatever the state was; TXQ and WIRE are empty at power-on. -/
def Obligations.PowerOnAndResetState : Prop :=
  let regs : CoreRegs :=
    { phase := .idle, status := .ready, ok := false, opened := false, begun := false, dist := 0,
      flux := 0, temp := 0, frame := Vector.replicate 9 0, reply := Vector.replicate 11 0,
      rlen := 0, ver := Vector.replicate 3 0, curCmd := 0 }
  let resets : State → Prop := fun t =>
    t.coreRegs = regs ∧ t.tmr = .none ∧ t.tmrExp = false ∧ t.tmrPolls = 0 ∧
    t.reqRefused = false ∧ t.done = false ∧ t.refusalMark = none
  (∀ q, resets (State.powerOn q) ∧ (State.powerOn q).txq = [] ∧ (State.powerOn q).wire = [] ∧
    (State.powerOn q).rxq = q) ∧
  (∀ s rest, s.sched = .hostReset :: rest → ∃ t, step s = .next t ∧ resets t)

/-- R341. A core reset in one step, whatever the phase: the core registers, the timer and the outputs are
as at power-on (so no done pulse, STATUS = READY and OK = 0), and the transport's RXQ, TXQ and WIRE
stay. -/
def Obligations.CoreResetKeepsTransport : Prop :=
  ∀ s rest, s.sched = .hostReset :: rest → ∃ t, step s = .next t ∧
    t.coreRegs = State.reset.coreRegs ∧ t.tmr = .none ∧ t.tmrExp = false ∧ t.tmrPolls = 0 ∧
    t.done = false ∧ t.reqRefused = false ∧ t.refusalMark = none ∧
    t.status = .ready ∧ t.ok = false ∧
    t.rxq = s.rxq ∧ t.txq = s.txq ∧ t.wire = s.wire

/-! ## A step is one agent's turn -/

/-- A step is the turn of the agent the schedule names, which is consumed; what the model adds is that
the pulses done and req_refused and the strobes of the step before are over (log 3, log 6). -/
def Obligations.StepIsTheAgentsTurn : Prop :=
  ∀ s e rest, s.sched = e :: rest →
    step s = turn e { s with sched := rest, done := false, reqRefused := false, strobes := {} }

/-! ## The port: decoding, acceptance, refusal -/

/-- R45. When the word at the port of an idle core decodes to a request, the core's turn is that request's
meaning; the step adds that the turn is consumed (log 3), the pulses and strobes of the step before end
(log 6), and the port takes the request (log 7). Only a presented request is accepted: with req_valid = 0
the core is not enabled (R48), and its turn leaves the rest of the state (the model's choice, log 4). -/
def Obligations.StepRunsDecodedRequest : Prop :=
  ∀ s rest, s.sched = .core :: rest → s.phase = .idle →
    (∀ i, s.reqValid = true → decode s.cfg.table s.reqWord = .ok i →
      step s = exec i
        { s with
          sched := rest, done := false, reqRefused := false, strobes := {}, reqValid := false }) ∧
    (s.reqValid = false →
      step s = .next { s with sched := rest, done := false, reqRefused := false, strobes := {} })

/-- R252, R304. The core's turn on a request at an idle port refuses it with the first reason of the
list that applies, and then nothing changes but the pulse and the mark; with no reason it is not
refused. That a refusal is a next state with a pulse and a mark, and that the port takes the request,
are the model's reading (log 1, log 7), and so is that the outputs of the step before end (log 6). -/
def Obligations.PortRefusesFirstReason : Prop :=
  ∀ s rest, s.sched = .core :: rest → s.phase = .idle → s.reqValid = true →
    let w := s.reqWord
    let cmd : CmdWord := w.extractLsb' 32 32
    let cl := (cmd.extractLsb' 8 8).toNat
    let rl := (cmd.extractLsb' 0 8).toNat
    let op := (w.extractLsb' 0 2).toNat
    let reason : Option RefuseReason :=
      if op = 0 then some .noOp
      else if w.extractLsb' 2 6 ≠ 0 then some .rsvBits
      else if (op = 2 ∨ op = 3) ∧ s.opened = false then some .notOpen
      else if op = 3 ∧ (cl < 3 ∨ 8 < cl) then some .cmdLen
      else if op = 3 ∧ (rl = 1 ∨ rl = 2 ∨ 11 < rl) then some .replyLen
      else if op = 3 ∧ cmd = s.cfg.table.setFrameRate ∧ w.extractLsb' 24 8 ≠ 0 then some .paramRange
      else none
    ∃ t, step s = .next t ∧
      (∀ r, reason = some r →
        t = { s with sched := rest, done := false, strobes := {}, reqValid := false,
                     reqRefused := true, refusalMark := some r }) ∧
      (reason = none → t.reqRefused = false ∧ t.refusalMark = s.refusalMark)

/-- The model's reading of R253 (log 2): the mark of a refusal outlives every step but a core reset. -/
def Obligations.RefusalMarkIsSticky : Prop :=
  ∀ s t, s.nextEvent ≠ .hostReset → s.refusalMark.isSome = true → step s = .next t →
    t.refusalMark.isSome = true

/-- Request words written out from R99 and R104 decode to the requests they stand for, under the spec's
default table, whose ID and ARG bytes are presumed (log 10). -/
def Obligations.SpecWordsDecode : Prop :=
  decode Config.defaultTable 0x0000000000000001 = .ok (.beginOp 0 0) ∧
  decode Config.defaultTable 0xFFFFFFFF00000002 = .ok (.getData 0 0xFFFFFFFF) ∧
  decode Config.defaultTable 0x0001040712345603 = .ok (.getFirmwareVersion 0x123456) ∧
  decode Config.defaultTable 0x0003060600006403 = .ok (.setFrameRate 100) ∧
  decode Config.defaultTable 0x000608080E100003 = .ok (.setBaudRate 921600) ∧
  decode Config.defaultTable 0x100B050B00000003 = .ok (.setI2cAddress 0) ∧
  decode Config.defaultTable 0x0000050312345603 = .ok (.sendGeneric 0x00000503 0x123456) ∧
  decode Config.defaultTable 0x00000000000000FE = .error .rsvBits ∧
  decode Config.defaultTable 0 = .ok (.reservedOp0 0)

/-- Under every table of pairwise distinct words, decoding the word of a request gives the request
back, with every operand at every value. -/
def Obligations.DecodeOfEncodeIsIdentity : Prop :=
  ∀ t i, CmdTable.Distinct t → Instr.Encodable t i → decode t (encode t i) = .ok i

/-- Under every table, a word that decodes is the word of the request it decodes to: no bit is
dropped, and no request has two words. -/
def Obligations.EncodeOfDecodeIsIdentity : Prop :=
  ∀ t w i, decode t w = .ok i → Instr.Encodable t i ∧ encode t i = w

/-- R101, R235. SEND_COMMAND by name is SEND_COMMAND with the word the table gives that name. -/
def Obligations.NamedCommandIsItsTableWord : Prop :=
  ∀ c p s, exec (Instr.named c p) s = exec (.sendGeneric (s.cfg.table.word c) p) s

/-- R103, R252. GET_DATA and every SEND_COMMAND are refused while no transport is open, and the
reserved encoding always; each time nothing changes but the pulse and the mark (log 1). -/
def Obligations.RefusalsWithoutOpenTransport : Prop :=
  ∀ s, s.phase = .idle →
    (s.opened = false → ∀ p cmd,
      exec (.getData p cmd) s =
        .next { s with reqRefused := true, refusalMark := some .notOpen } ∧
      exec (.sendGeneric cmd p) s =
        .next { s with reqRefused := true, refusalMark := some .notOpen } ∧
      ∀ c, exec (Instr.named c p) s =
        .next { s with reqRefused := true, refusalMark := some .notOpen }) ∧
    ∀ rest, exec (.reservedOp0 rest) s =
      .next { s with reqRefused := true, refusalMark := some .noOp }

/-- R45, R350. While an operation runs, the request at the port waits: only a host turn changes it, and
it is not accepted or refused. That a core reset leaves req_valid and req_word as they are is the model's
choice (log 14). -/
def Obligations.RequestHeldWhileBusy : Prop :=
  ∀ s t, s.phase ≠ .idle → step s = .next t →
    (∀ w, s.nextEvent ≠ .hostRequest w) →
    t.reqValid = s.reqValid ∧ t.reqWord = s.reqWord ∧ t.reqRefused = false

/-! ## BEGIN -/

/-- R260. BEGIN's acceptance step, with either value of XPORT_OK and any ignored fields: it completes in
it only with no transport. -/
def Obligations.BeginAccepted : Prop :=
  ∀ p cmd s, s.phase = .idle →
    exec (.beginOp p cmd) s = .next (
      if s.xportOk = true then
        { s with opened := true, tmr := .settle, tmrExp := false, tmrPolls := 0,
                 strobes := s.strobes.start .settle, phase := .bgSettle }
      else
        { s with opened := false, begun := true, status := .serialError, ok := false,
                 tmr := .none, phase := .idle, done := true })

/-- R261. BEGIN's poll iteration: nothing but the count until the settle delay is over; then BEGUN is
set and the sign of life is a byte in RXQ, which stays there. -/
def Obligations.BeginPollIteration : Prop :=
  ∀ s, s.phase = .bgSettle →
    coreTurn s = .next (
      if s.tmrExp = true then
        { s with tmrPolls := s.tmrPolls + 1, begun := true,
                 status := if s.rxq = [] then .serialError else .ready,
                 ok := if s.rxq = [] then false else true,
                 tmr := .none, phase := .idle, done := true }
      else { s with tmrPolls := s.tmrPolls + 1 })

/-! ## GET_DATA -/

/-- R142. GET_DATA's acceptance step, with any ignored fields. -/
def Obligations.GetDataAccepted : Prop :=
  ∀ p cmd s, s.phase = .idle → s.opened = true →
    exec (.getData p cmd) s = .next
      { s with frame := Vector.replicate 9 0,
               rxq := if 9 < s.rxq.length then s.rxq.drop (s.rxq.length - 9) else s.rxq,
               strobes := { s.strobes.start .deadline with
                 rxDiscard := if 9 < s.rxq.length then s.rxq.length - 9
                   else s.strobes.rxDiscard },
               tmr := .deadline, tmrExp := false, tmrPolls := 0, phase := .gdSync }

/-- R143. A poll iteration of GET_DATA moves the oldest waiting byte into the window, all nine writes in
one step and whatever the iteration's outcome; with no byte the window and RXQ stay. -/
def Obligations.FrameWindowShifts : Prop :=
  ∀ s t, s.phase = .gdSync → coreTurn s = .next t →
    (∀ b q, s.rxq = b :: q →
      t.rxq = q ∧ t.frame[8] = b ∧
      ∀ (i : Nat) (h : i < 8), t.frame[i]'(by omega) = s.frame[i + 1]'(by omega)) ∧
    (s.rxq = [] → t.rxq = [] ∧ t.frame = s.frame)

/-- R146, with R144 and R145. A poll iteration whose window, after its shift, does not start with the
header completes with HEADER_TIMEOUT if the deadline has expired, and otherwise goes on; the
measurement registers stay. `W` is the window after the shift. -/
def Obligations.FramePollWithoutHeader : Prop :=
  ∀ s (W : Vector Byte 9), s.phase = .gdSync →
    W = (match s.rxq with | [] => s.frame | b :: _ => shiftFrame s.frame b) →
    ¬ (W[0] = 0x59 ∧ W[1] = 0x59) →
    coreTurn s = .next (
      if s.tmrExp = true then
        { s with tmrPolls := s.tmrPolls + 1, frame := W, rxq := s.rxq.tail,
                 strobes := s.strobes.pop s.rxq,
                 status := .headerTimeout, ok := false, tmr := .none, phase := .idle,
                 done := true }
      else { s with tmrPolls := s.tmrPolls + 1, frame := W, rxq := s.rxq.tail,
                    strobes := s.strobes.pop s.rxq })

/-- R147, R148. A matched window whose checksum is wrong completes with CHECKSUM_FAILURE, even with the
deadline expired; the window stays readable and the measurement registers are not written. -/
def Obligations.FramePollChecksumFailure : Prop :=
  ∀ s (W : Vector Byte 9), s.phase = .gdSync →
    W = (match s.rxq with | [] => s.frame | b :: _ => shiftFrame s.frame b) →
    W[0] = 0x59 → W[1] = 0x59 →
    (W[0].toNat + W[1].toNat + W[2].toNat + W[3].toNat + W[4].toNat + W[5].toNat + W[6].toNat +
      W[7].toNat) % 256 ≠ W[8].toNat →
    coreTurn s = .next
      { s with tmrPolls := s.tmrPolls + 1, frame := W, rxq := s.rxq.tail,
               strobes := s.strobes.pop s.rxq,
               status := .checksumFailure, ok := false, tmr := .none, phase := .idle,
               done := true }

/-- R149, R150, R151. A checksum-valid frame writes the signed distance and flux and the temperature,
and the status is the first override that holds, else READY. -/
def Obligations.FramePollDecodes : Prop :=
  ∀ s (W : Vector Byte 9), s.phase = .gdSync →
    W = (match s.rxq with | [] => s.frame | b :: _ => shiftFrame s.frame b) →
    W[0] = 0x59 → W[1] = 0x59 →
    (W[0].toNat + W[1].toNat + W[2].toNat + W[3].toNat + W[4].toNat + W[5].toNat + W[6].toNat +
      W[7].toNat) % 256 = W[8].toNat →
    let signed : Nat → Int := fun u => if u < 0x8000 then u else (u : Int) - 0x10000
    let dist := signed (W[3].toNat * 256 + W[2].toNat)
    let flux := signed (W[5].toNat * 256 + W[4].toNat)
    ∃ t, coreTurn s = .next t ∧
      t.dist.toInt = dist ∧ t.flux.toInt = flux ∧
      t.temp.toInt = (((W[7].toNat * 256 + W[6].toNat) / 8 : Nat) : Int) - 256 ∧
      t.status = (if dist = -1 then .weakSignal else if flux = -1 then .strongSignal
        else if dist = -4 then .floodSignal else .ready) ∧
      t.ok = decide (t.status = .ready) ∧
      t = { s with tmrPolls := s.tmrPolls + 1, frame := W, rxq := s.rxq.tail,
                   strobes := s.strobes.pop s.rxq,
                   dist := t.dist,
                   flux := t.flux, temp := t.temp, status := t.status, ok := t.ok, tmr := .none,
                   phase := .idle, done := true }

/-- R153. From a fresh window, `k` < 9 popped bytes never match: the search goes on, and the window is
the last nine bytes of nine zeros and the bytes popped. -/
def Obligations.NoFrameMatchBeforeNineBytes : Prop :=
  ∀ s k more, k < 9 → s.phase = .gdSync → s.frame = Vector.replicate 9 0 → s.tmrExp = false →
    k ≤ s.rxq.length → s.sched = List.replicate k .core ++ more →
    ∃ t, runTrace k s = some ([], t) ∧ t.phase = .gdSync ∧ t.rxq = s.rxq.drop k ∧
      t.frame.toList = List.replicate (9 - k) 0 ++ s.rxq.take k ∧ t.sched = more

/-- R154. From a fresh window, with the deadline not expiring, let `i` be the smallest index of a pair
59 59 among the waiting bytes and let nine bytes follow from it. The search completes in the
iteration that pops byte `i + 8`, with that window, pops no byte after it, and its one completion is
the window's: CHECKSUM_FAILURE, or the status of the decoded frame. -/
def Obligations.FirstHeaderPairWins : Prop :=
  ∀ s i more, s.phase = .gdSync → s.frame = Vector.replicate 9 0 → s.tmrExp = false →
    s.rxq[i]? = some 0x59 → s.rxq[i + 1]? = some 0x59 → i + 9 ≤ s.rxq.length →
    (∀ j < i, ¬ (s.rxq[j]? = some 0x59 ∧ s.rxq[j + 1]? = some 0x59)) →
    s.sched = List.replicate (i + 9) .core ++ more →
    ∃ t, runTrace (i + 9) s = some ([⟨t.status, t.ok⟩], t) ∧
      t.phase = .idle ∧ t.rxq = s.rxq.drop (i + 9) ∧ t.sched = more ∧
      t.frame.toList = (s.rxq.drop i).take 9 ∧
      t.status = (if frameValid t.frame = true then override t.dist t.flux else .checksumFailure) ∧
      (if frameValid t.frame = true then
        t.dist = t.frame[3] ++ t.frame[2] ∧ t.flux = t.frame[5] ++ t.frame[4]
      else t.dist = s.dist ∧ t.flux = s.flux ∧ t.temp = s.temp)

/-- R158. A GET_DATA accepted with RXQ empty, while no byte arrives, polls any number of times with a
zeroed window and completes with HEADER_TIMEOUT and OK = 0 once the deadline expires: no earlier
frame is reported. -/
def Obligations.SilentTransportTimesOut : Prop :=
  ∀ s p cmd n more, s.phase = .idle → s.opened = true → s.rxq = [] → s.reqValid = true →
    s.reqWord = encode s.cfg.table (.getData p cmd) → s.cfg.deadlineMinPolls ≤ n →
    s.sched = .core :: (List.replicate n .core ++ [.timer, .core] ++ more) →
    ∃ t, runTrace (n + 3) s = some ([⟨.headerTimeout, false⟩], t) ∧ t.phase = .idle ∧
      t.frame = Vector.replicate 9 0 ∧ t.rxq = [] ∧
      t.dist = s.dist ∧ t.flux = s.flux ∧ t.temp = s.temp

/-! ## Checksum and encoder -/

/-- R130. The accumulator is the sum of the bytes mod 256, whatever their order, and 0 for an empty
range. -/
def Obligations.Sum8IsSumMod256 : Prop :=
  (∀ A a b, b < a → sum8 (slice A a b) = 0) ∧
  (∀ A B : List Byte, A.Perm B → sum8 A = sum8 B) ∧
  ∀ A : List Byte, (sum8 A).toNat = (A.map BitVec.toNat).sum % 256

/-- R132. The reply check compares the sum of all bytes of the window but the last with the last. -/
def Obligations.ReplyValidComparesSum : Prop :=
  ∀ (R : Vector Byte 11) (rl : Nat) (h : 3 ≤ rl ∧ rl ≤ 11),
    replyValid R rl = true ↔
      ((R.toList.take (rl - 1)).map BitVec.toNat).sum % 256 = (R[rl - 1]'(by omega)).toNat

/-- R134. A change to exactly one byte, the checksum byte included, makes a passing frame check fail;
a swap of two of its first eight bytes leaves it passing; an all-zero window passes. -/
def Obligations.FrameCheckDetectsOneByteChange : Prop :=
  (∀ (W : Vector Byte 9) (i : Nat) (h : i < 9) (b : Byte),
    frameValid W = true → b ≠ W[i] → frameValid (W.set i b) = false) ∧
  (∀ (W : Vector Byte 9) (i j : Nat) (hi : i < 8) (hj : j < 8),
    frameValid (W.swap i j) = frameValid W) ∧
  frameValid (Vector.replicate 9 0) = true

/-- R95. The bytes of the packet of a well-formed word, offset by offset. -/
def Obligations.PacketLayout : Prop :=
  ∀ (t : CmdTable) (cmd : CmdWord) (p : Param), CmdTable.Valid t → CmdWord.WellFormed cmd →
    let P := (encodePacket t cmd p).packet
    let cl := (cmdCl cmd).toNat
    P.length = cl ∧ P[0]? = some 0x5A ∧ P[1]? = some (cmdCl cmd) ∧
    (4 ≤ cl → P[2]? = some (cmdId cmd)) ∧
    (5 ≤ cl → P[3]? = some (if cmd = t.setFrameRate ∨ cmd = t.setBaudRate then p.extractLsb' 0 8
      else cmdArg cmd)) ∧
    (6 ≤ cl → P[4]? = some (if cmd = t.setFrameRate ∨ cmd = t.setBaudRate then p.extractLsb' 8 8
      else 0)) ∧
    (7 ≤ cl → P[5]? = some (if cmd = t.setBaudRate then p.extractLsb' 16 8 else 0)) ∧
    (cl = 8 → P[6]? = some 0) ∧
    P[cl - 1]? = some (sum8 (P.take (cl - 1)))

/-- R190. What holds of every encoded packet, with the source's round trip of SET_FRAME_RATE. -/
def Obligations.EncodedPacketProperties : Prop :=
  ∀ (t : CmdTable), CmdTable.Valid t →
    (∀ (cmd : CmdWord) (p q : Param), CmdWord.WellFormed cmd →
      let e := encodePacket t cmd p
      e.rl = cmdRl cmd ∧ e.cl = cmdCl cmd ∧ e.packet.length = e.cl.toNat ∧
      e.packet[0]? = some 0x5A ∧ e.packet[1]? = some e.cl ∧
      (4 ≤ e.cl.toNat → e.packet[2]? = some (cmd.extractLsb' 16 8)) ∧
      (((e.packet.dropLast).map BitVec.toNat).sum % 256 : Nat) =
        (e.packet.getLastD 0).toNat ∧
      (cmd ≠ t.setFrameRate → cmd ≠ t.setBaudRate → encodePacket t cmd q = e)) ∧
    (∀ p : Param, CmdTable.SourceLengths t → p.extractLsb' 16 8 = 0 →
      ∃ lo hi, (encodePacket t t.setFrameRate p).packet[3]? = some lo ∧
        (encodePacket t t.setFrameRate p).packet[4]? = some hi ∧
        hi.toNat * 256 + lo.toNat = p.toNat)

/-! ## SEND_COMMAND: acceptance -/

/-- R196, R197, R199, R200. SEND_COMMAND's acceptance step on any well-formed word: both buffers are
flushed, TXQ holds exactly the packet, a reply length of 0 completes with READY at once, any other
zeroes the window and starts the deadline. -/
def Obligations.GenericCommandAccepted : Prop :=
  ∀ cmd p s, s.phase = .idle → s.opened = true → CmdWord.WellFormed cmd →
    ¬ (cmd = s.cfg.table.setFrameRate ∧ p.extractLsb' 16 8 ≠ 0) →
    let P := (encodePacket s.cfg.table cmd p).packet
    exec (.sendGeneric cmd p) s = .next (
      if cmdRl cmd = 0 then
        { s with curCmd := cmd, rxq := [], txq := P, strobes := s.strobes.send P,
                 status := .ready, ok := true, tmr := .none, phase := .idle, done := true }
      else
        { s with curCmd := cmd, rxq := [], txq := P,
                 strobes := (s.strobes.send P).start .deadline,
                 reply := Vector.replicate 11 0, rlen := cmdRl cmd, tmr := .deadline,
                 tmrExp := false, tmrPolls := 0, phase := .scSync })

/-- R220 (packet and reply window). GET_FIRMWARE_VERSION sends `5A 04 ID chk` and awaits 7 bytes. -/
def Obligations.FirmwareQuerySends : Prop :=
  ∀ p s, s.phase = .idle → s.opened = true → CmdTable.SourceLengths s.cfg.table →
    let cmd := s.cfg.table.getFirmwareVersion
    let P : List Byte := [0x5A, 0x04, cmdId cmd, 0x5E + cmdId cmd]
    exec (.getFirmwareVersion p) s = .next
      { s with curCmd := cmd, rxq := [], txq := P, strobes := (s.strobes.send P).start .deadline,
               reply := Vector.replicate 11 0, rlen := 7, tmr := .deadline, tmrExp := false,
               tmrPolls := 0, phase := .scSync }

/-- R221. TRIGGER_DETECTION sends `5A 04 ID chk` and completes with READY in its acceptance step. -/
def Obligations.TriggerCompletesAtOnce : Prop :=
  ∀ p s, s.phase = .idle → s.opened = true → CmdTable.SourceLengths s.cfg.table →
    let cmd := s.cfg.table.triggerDetection
    let P : List Byte := [0x5A, 0x04, cmdId cmd, 0x5E + cmdId cmd]
    exec (.triggerDetection p) s = .next
      { s with curCmd := cmd, rxq := [], txq := P, strobes := s.strobes.send P,
               status := .ready, ok := true, tmr := .none, phase := .idle, done := true }

/-- R222, R223, R224 (packet and reply window). SOFT_RESET, HARD_RESET and SAVE_SETTINGS each send
`5A 04 ID chk` and await 5 bytes. -/
def Obligations.ResetAndSaveSend : Prop :=
  ∀ p s, s.phase = .idle → s.opened = true → CmdTable.SourceLengths s.cfg.table →
    let sent : CmdWord → State := fun cmd =>
      let P : List Byte := [0x5A, 0x04, cmdId cmd, 0x5E + cmdId cmd]
      { s with curCmd := cmd, rxq := [], txq := P, strobes := (s.strobes.send P).start .deadline,
               reply := Vector.replicate 11 0, rlen := 5, tmr := .deadline, tmrExp := false,
               tmrPolls := 0, phase := .scSync }
    exec (.softReset p) s = .next (sent s.cfg.table.softReset) ∧
    exec (.hardReset p) s = .next (sent s.cfg.table.hardReset) ∧
    exec (.saveSettings p) s = .next (sent s.cfg.table.saveSettings)

/-- R225 (packet, reply window, refusal). SET_FRAME_RATE sends its rate little-endian at offsets 3 and
4; a rate that does not fit two bytes is refused with PARAM_RANGE, which the model has as a next state
with the pulse and the mark (log 1). -/
def Obligations.SetFrameRateSends : Prop :=
  ∀ p s, s.phase = .idle → s.opened = true → CmdTable.SourceLengths s.cfg.table →
    let cmd := s.cfg.table.setFrameRate
    let lo : Byte := p.extractLsb' 0 8
    let hi : Byte := p.extractLsb' 8 8
    let P : List Byte := [0x5A, 0x06, cmdId cmd, lo, hi, 0x60 + cmdId cmd + lo + hi]
    exec (.setFrameRate p) s = .next (
      if p.toNat < 0x10000 then
        { s with curCmd := cmd, rxq := [], txq := P, strobes := (s.strobes.send P).start .deadline,
                 reply := Vector.replicate 11 0, rlen := 6, tmr := .deadline, tmrExp := false,
                 tmrPolls := 0, phase := .scSync }
      else { s with reqRefused := true, refusalMark := some .paramRange })

/-- R226 (packet and reply window). SET_BAUD_RATE sends its rate little-endian at offsets 3 to 5 and a
zero byte at offset 6, whatever the rate. -/
def Obligations.SetBaudRateSends : Prop :=
  ∀ p s, s.phase = .idle → s.opened = true → CmdTable.SourceLengths s.cfg.table →
    let cmd := s.cfg.table.setBaudRate
    let lo : Byte := p.extractLsb' 0 8
    let mid : Byte := p.extractLsb' 8 8
    let hi : Byte := p.extractLsb' 16 8
    let P : List Byte :=
      [0x5A, 0x08, cmdId cmd, lo, mid, hi, 0x00, 0x62 + cmdId cmd + lo + mid + hi]
    exec (.setBaudRate p) s = .next
      { s with curCmd := cmd, rxq := [], txq := P, strobes := (s.strobes.send P).start .deadline,
               reply := Vector.replicate 11 0, rlen := 8, tmr := .deadline, tmrExp := false,
               tmrPolls := 0, phase := .scSync }

/-- R227 to R231 (packet and reply window). The three output formats and the two output switches each
send `5A 05 ID ARG chk` and await 5 bytes. -/
def Obligations.FormatAndOutputSend : Prop :=
  ∀ p s, s.phase = .idle → s.opened = true → CmdTable.SourceLengths s.cfg.table →
    let sent : CmdWord → State := fun cmd =>
      let P : List Byte := [0x5A, 0x05, cmdId cmd, cmdArg cmd, 0x5F + cmdId cmd + cmdArg cmd]
      { s with curCmd := cmd, rxq := [], txq := P, strobes := (s.strobes.send P).start .deadline,
               reply := Vector.replicate 11 0, rlen := 5, tmr := .deadline, tmrExp := false,
               tmrPolls := 0, phase := .scSync }
    exec (.standardFormatCm p) s = .next (sent s.cfg.table.standardFormatCm) ∧
    exec (.standardFormatMm p) s = .next (sent s.cfg.table.standardFormatMm) ∧
    exec (.pixhawkFormat p) s = .next (sent s.cfg.table.pixhawkFormat) ∧
    exec (.enableOutput p) s = .next (sent s.cfg.table.enableOutput) ∧
    exec (.disableOutput p) s = .next (sent s.cfg.table.disableOutput)

/-- R232 to R234 (packet and reply window). The I2C address and the two mode selectors each send
`5A 05 ID ARG chk` and await 11, 10 and 10 bytes. -/
def Obligations.AddressAndModeSend : Prop :=
  ∀ p s, s.phase = .idle → s.opened = true → CmdTable.SourceLengths s.cfg.table →
    let sent : CmdWord → Byte → State := fun cmd rl =>
      let P : List Byte := [0x5A, 0x05, cmdId cmd, cmdArg cmd, 0x5F + cmdId cmd + cmdArg cmd]
      { s with curCmd := cmd, rxq := [], txq := P, strobes := (s.strobes.send P).start .deadline,
               reply := Vector.replicate 11 0, rlen := rl, tmr := .deadline, tmrExp := false,
               tmrPolls := 0, phase := .scSync }
    exec (.setI2cAddress p) s = .next (sent s.cfg.table.setI2cAddress 11) ∧
    exec (.setSerialMode p) s = .next (sent s.cfg.table.setSerialMode 10) ∧
    exec (.setI2cMode p) s = .next (sent s.cfg.table.setI2cMode 10)

/-! ## SEND_COMMAND: the reply -/

/-- R201. A poll iteration of SEND_COMMAND moves the oldest waiting byte into the window in use,
whatever its outcome, and does not touch the bytes beyond the window; with no byte the window and RXQ
stay. The width in use is 1..REPLY_MAX, as the invariant keeps it. -/
def Obligations.ReplyWindowShifts : Prop :=
  ∀ s t, s.phase = .scSync → s.rlen ≠ 0 → s.rlen.toNat ≤ 11 → coreTurn s = .next t →
    (∀ b q, s.rxq = b :: q →
      t.rxq = q ∧ t.reply[s.rlen.toNat - 1]? = some b ∧
      (∀ (i : Nat) (h : i < 10), i + 1 < s.rlen.toNat → t.reply[i] = s.reply[i + 1]) ∧
      (∀ (i : Nat) (h : i < 11), s.rlen.toNat ≤ i → t.reply[i] = s.reply[i])) ∧
    (s.rxq = [] → t.rxq = [] ∧ t.reply = s.reply) ∧ t.rlen = s.rlen

/-- R203, with R202 and R209. A poll iteration whose window, after its shift, does not start with 5A and
the declared length completes with HEADER_TIMEOUT if the deadline has expired, and otherwise goes on;
VER stays. `W` is the window after the shift. -/
def Obligations.ReplyPollWithoutHeader : Prop :=
  ∀ s (W : Vector Byte 11), s.phase = .scSync →
    W = (match s.rxq with | [] => s.reply | b :: _ => shiftReply s.reply s.rlen.toNat b) →
    ¬ (W[0] = 0x5A ∧ W[1] = s.rlen) →
    coreTurn s = .next (
      if s.tmrExp = true then
        { s with tmrPolls := s.tmrPolls + 1, reply := W, rxq := s.rxq.tail,
                 strobes := s.strobes.pop s.rxq,
                 status := .headerTimeout, ok := false, tmr := .none, phase := .idle,
                 done := true }
      else { s with tmrPolls := s.tmrPolls + 1, reply := W, rxq := s.rxq.tail,
                    strobes := s.strobes.pop s.rxq })

/-- R204. A matched reply whose checksum is wrong completes with CHECKSUM_FAILURE, even with the deadline
expired; VER is not written. -/
def Obligations.ReplyPollChecksumFailure : Prop :=
  ∀ s (W : Vector Byte 11), s.phase = .scSync →
    W = (match s.rxq with | [] => s.reply | b :: _ => shiftReply s.reply s.rlen.toNat b) →
    W[0] = 0x5A → W[1] = s.rlen → replyValid W s.rlen.toNat = false →
    coreTurn s = .next
      { s with tmrPolls := s.tmrPolls + 1, reply := W, rxq := s.rxq.tail,
               strobes := s.strobes.pop s.rxq,
               status := .checksumFailure, ok := false, tmr := .none, phase := .idle,
               done := true }

/-- R205 to R208. A checksum-valid reply: the firmware query copies bytes 3 to 5 to VER and is READY; a
reset or save command whose byte 3 is 1 is COMMAND_FAILED; everything else is READY. Under a valid
table the cases exclude each other. -/
def Obligations.ReplyPollPostProcesses : Prop :=
  ∀ s (W : Vector Byte 11), s.phase = .scSync →
    CmdTable.Valid s.cfg.table →
    W = (match s.rxq with | [] => s.reply | b :: _ => shiftReply s.reply s.rlen.toNat b) →
    W[0] = 0x5A → W[1] = s.rlen → replyValid W s.rlen.toNat = true →
    let failed := (s.curCmd = s.cfg.table.softReset ∨ s.curCmd = s.cfg.table.hardReset ∨
      s.curCmd = s.cfg.table.saveSettings) ∧ W[3] = 1
    coreTurn s = .next
      { s with tmrPolls := s.tmrPolls + 1, reply := W, rxq := s.rxq.tail,
               strobes := s.strobes.pop s.rxq,
               ver := if s.curCmd = s.cfg.table.getFirmwareVersion then #v[W[3], W[4], W[5]]
                      else s.ver,
               status := if failed then .commandFailed else .ready,
               ok := if failed then false else true,
               tmr := .none, phase := .idle, done := true }

/-- R210. From a fresh reply window of width `rl`, with the deadline not expiring, let `i` be the smallest
index of a byte 5A followed by `rl` among the waiting bytes and let `rl` bytes follow from it. The
search completes in the iteration that pops byte `i + rl - 1`, with that window, and pops no byte
after it. -/
def Obligations.FirstReplyPairWins : Prop :=
  ∀ s i more, s.phase = .scSync → s.reply = Vector.replicate 11 0 → s.tmrExp = false →
    3 ≤ s.rlen.toNat → s.rlen.toNat ≤ 11 →
    s.rxq[i]? = some 0x5A → s.rxq[i + 1]? = some s.rlen → i + s.rlen.toNat ≤ s.rxq.length →
    (∀ j < i, ¬ (s.rxq[j]? = some 0x5A ∧ s.rxq[j + 1]? = some s.rlen)) →
    s.sched = List.replicate (i + s.rlen.toNat) .core ++ more →
    ∃ t, runTrace (i + s.rlen.toNat) s = some ([⟨t.status, t.ok⟩], t) ∧
      t.phase = .idle ∧ t.rxq = s.rxq.drop (i + s.rlen.toNat) ∧ t.sched = more ∧
      t.reply.toList = (s.rxq.drop i).take s.rlen.toNat ++ List.replicate (11 - s.rlen.toNat) 0 ∧
      (t.status = .checksumFailure ↔ replyValid t.reply s.rlen.toNat = false)

/-! ## Invariants and whole-machine rules -/

/-- The invariant holds at reset, and at power-on whatever waits in RXQ. -/
def Obligations.InvariantAtReset : Prop :=
  State.reset.Inv ∧ ∀ q, (State.powerOn q).Inv

/-- Every step of every agent keeps the invariant: the timer matches the phase, the deadline is not
early, the reply window is in shape, a running search is unmatched, only an open transport is busy,
OK = 1 exactly when STATUS = READY once an operation has completed (R26), a signal status agrees with
the registers, TEMP is in range (R32), RXQ keeps within RX_CAP where the build has one (log 12), no
reserved status is held (R24), and done is up only with an idle core (log 6). -/
def Obligations.InvariantKeptByStep : Prop :=
  ∀ s t, s.Inv → step s = .next t → t.Inv

/-- R321, R300. No step faults, and the only step without a next state is an arrival on a full RXQ, in a
build that gives such an arrival no meaning. That a step in which the core refuses a request has a next
state is the model's reading (log 1), and so is that the turn of an agent with no enabled step has one
(log 4), and that the build says what a full RXQ does with an arrival (log 12). -/
def Obligations.OnlyOverflowStops : Prop :=
  ∀ s, (∃ t, step s = .next t) ∨
    (step s = .refused .rxOverflow ∧ (∃ b, s.nextEvent = .rx b) ∧ s.cfg.rxFull = .refuse ∧
      ∃ cap ∈ s.cfg.rxCap, cap ≤ s.rxq.length)

/-- Every request has a next state, in every state: none stops the machine. That a refused request has
one (log 1) and that a request at a busy core has one, the state unchanged (log 15), are the model's
choice. -/
def Obligations.EveryRequestHasNextState : Prop :=
  ∀ i s, ∃ t, exec i s = .next t

/-- R7. No step changes the build's parameters. -/
def Obligations.ParametersNeverChange : Prop :=
  ∀ s t, step s = .next t → t.cfg = s.cfg

/-- R39, R256. Apart from a core reset, a step that pulses done leaves the core idle with no timer and
OK = (STATUS = READY), and a step that does not pulse done keeps STATUS and OK. That a pulse is over in
the next step of any agent is the model's choice (log 6). -/
def Obligations.StatusWrittenByCompletionOnly : Prop :=
  ∀ s t, s.nextEvent ≠ .hostReset → step s = .next t →
    (t.done = true → t.phase = .idle ∧ t.tmr = .none ∧ t.ok = decide (t.status = .ready)) ∧
    (t.done = false → t.status = s.status ∧ t.ok = s.ok)

/-- R39, R152. Apart from a core reset, a step that changes a measurement register is a GET_DATA poll
that completes on a checksum-valid window with READY or a signal status. -/
def Obligations.MeasurementWrittenByValidFrameOnly : Prop :=
  ∀ s t, s.nextEvent ≠ .hostReset → step s = .next t →
    (t.dist ≠ s.dist ∨ t.flux ≠ s.flux ∨ t.temp ≠ s.temp) →
    s.nextEvent = .core ∧ s.phase = .gdSync ∧ t.done = true ∧ frameValid t.frame = true ∧
    t.frame[0] = 0x59 ∧ t.frame[1] = 0x59 ∧
    (t.status = .ready ∨ t.status = .weakSignal ∨ t.status = .strongSignal ∨
      t.status = .floodSignal)

/-- R35, R206. Apart from a core reset, the only step that changes VER is the completion with READY of a
GET_FIRMWARE_VERSION. -/
def Obligations.VersionWrittenByQueryOnly : Prop :=
  ∀ s t, s.nextEvent ≠ .hostReset → step s = .next t → t.ver ≠ s.ver →
    s.nextEvent = .core ∧ s.phase = .scSync ∧ s.curCmd = s.cfg.table.getFirmwareVersion ∧
    t.done = true ∧ t.status = .ready ∧
    t.ver = #v[t.reply[3], t.reply[4], t.reply[5]]

/-- R20, R46, R308. A turn of RX, TXD, TIMER or HOST other than a core reset changes no core register and
drives no strobe of the core (log 21); TXD and TIMER do not touch RXQ, and only TXD touches TXQ and
WIRE. -/
def Obligations.OtherAgentsLeaveCoreAlone : Prop :=
  ∀ s t, s.nextEvent ≠ .core → s.nextEvent ≠ .hostReset → step s = .next t →
    t.coreRegs = s.coreRegs ∧ t.strobes = {} ∧ t.tmr = s.tmr ∧ t.tmrPolls = s.tmrPolls ∧
    (s.nextEvent ≠ .timer → t.tmrExp = s.tmrExp) ∧
    (s.nextEvent ≠ .txd → t.txq = s.txq ∧ t.wire = s.wire) ∧
    ((∀ b, s.nextEvent ≠ .rx b) → t.rxq = s.rxq)

/-- R40, R42. An arrival is appended to RXQ when there is room, which an RXQ with no RX_CAP always has; on
a full RXQ the build's parameter says what it does (log 12): the step is refused, the byte is lost, or
the oldest bytes are lost and the newest RX_CAP kept. TXD moves the oldest byte of TXQ to the end of
WIRE, and does nothing when there is none (log 4). Nothing else changes but what the step before pulsed
and drove (log 6). -/
def Obligations.TransportTurns : Prop :=
  ∀ s rest,
    let u : State := { s with sched := rest, done := false, reqRefused := false, strobes := {} }
    (∀ b, s.sched = .rx b :: rest →
      ((∀ cap ∈ s.cfg.rxCap, s.rxq.length < cap) →
        step s = .next { u with rxq := s.rxq ++ [b] }) ∧
      (∀ cap ∈ s.cfg.rxCap, cap ≤ s.rxq.length →
        step s = match s.cfg.rxFull with
          | .refuse => .refused .rxOverflow
          | .dropNewest => .next u
          | .dropOldest => .next { u with rxq := (s.rxq ++ [b]).drop (s.rxq.length + 1 - cap) })) ∧
    (s.sched = .txd :: rest →
      (s.txq = [] → step s = .next u) ∧
      ∀ b q, s.txq = b :: q → step s = .next { u with txq := q, wire := s.wire ++ [b] })

/-- R43. The TIMER agent's turn sets TMR_EXP when a timer runs and either it is the settle timer or
DEADLINE_MIN_POLLS iterations are over. That the turn is a step that does nothing where it may not
(log 4), and that it ends what the step before pulsed and drove (log 6), are the model's choice. -/
def Obligations.TimerTurnExpires : Prop :=
  ∀ s rest, s.sched = .timer :: rest →
    step s = .next
      { s with sched := rest, done := false, reqRefused := false, strobes := {},
               tmrExp := if s.tmr ≠ .none ∧
                   (s.cfg.deadlineMinPolls ≤ s.tmrPolls ∨ s.tmr = .settle)
                 then true else s.tmrExp }

/-- R159, R261, R359. Once its timer has expired, a running operation (a GET_DATA, a SEND_COMMAND, a
BEGIN) completes in the core's next turn. So under the fairness of R43 and R48 every running operation
completes, in a step of the core, unless a core reset abandons it. -/
def Obligations.ExpiredOperationCompletes : Prop :=
  (∀ s rest, s.sched = .core :: rest → s.phase ≠ .idle → s.tmrExp = true →
    ∃ t, step s = .next t ∧ t.phase = .idle ∧ t.done = true) ∧
  ∀ e r n, FairRun e r → (r n).TimerMatchesPhase → (r n).phase ≠ .idle →
    ∃ m, n ≤ m ∧ (∀ k, n ≤ k → k ≤ m → (r k).phase = (r n).phase) ∧ (r (m + 1)).phase = .idle ∧
      (e m = .hostReset ∨ e m = .core ∧ (r (m + 1)).done = true)

/-- R41, R46, R47, R74. A poll iteration consumes at most one byte of RXQ, the oldest, with rx_pop, which
it does exactly when it searches a window and a byte waits; it drives no other strobe (log 21)
and sends nothing. -/
def Obligations.PollPopsAtMostOneByte : Prop :=
  ∀ s t rest, s.sched = .core :: rest → s.phase ≠ .idle → step s = .next t →
    (t.rxq = s.rxq ∧ t.strobes = {} ∧ (s.phase = .bgSettle ∨ s.rxq = []) ∨
      s.phase ≠ .bgSettle ∧ t.strobes = { rxPop := true } ∧ ∃ b, s.rxq = b :: t.rxq) ∧
    t.txq = s.txq ∧ t.wire = s.wire ∧ t.tmrPolls = s.tmrPolls + 1

/-- R42, R79, R356. WIRE only grows. A step either keeps the bytes of WIRE and TXQ in order, or it is the
acceptance of the SEND_COMMAND at the port, which replaces TXQ by the one packet of that request's word
and parameter, the bytes of its tx_data, and leaves WIRE. -/
def Obligations.OutputStaysInOrder : Prop :=
  ∀ s t, step s = .next t →
    s.wire <+: t.wire ∧
    (t.wire ++ t.txq = s.wire ++ s.txq ∨
      s.nextEvent = .core ∧ s.phase = .idle ∧ s.reqValid = true ∧ t.wire = s.wire ∧
        let cmd := reqCmd s.reqWord
        decode s.cfg.table s.reqWord =
            .ok (Instr.ofSend s.cfg.table cmd (reqParam s.reqWord)) ∧
          CmdWord.WellFormed cmd ∧ t.curCmd = cmd ∧
          t.txq = (encodePacket s.cfg.table cmd (reqParam s.reqWord)).packet ∧
          t.strobes.txFlush = true ∧ t.strobes.txWrite = true ∧ t.strobes.txData = t.txq)

/-- What a request leaves unchanged when the port takes it: the measurement registers, VER and WIRE
always; the frame window unless it is GET_DATA; CUR_CMD, the reply window, RLEN and TXQ unless it is
a SEND_COMMAND; BEGUN and OPENED unless it is BEGIN; and RXQ if it is BEGIN or reserved. -/
def Obligations.RequestFrame : Prop :=
  ∀ i s t, exec i s = .next t →
    t.dist = s.dist ∧ t.flux = s.flux ∧ t.temp = s.temp ∧ t.ver = s.ver ∧ t.wire = s.wire ∧
    t.cfg = s.cfg ∧ t.xportOk = s.xportOk ∧ t.rdIdx = s.rdIdx ∧ t.sched = s.sched ∧
    t.tick = s.tick ∧ t.reqValid = s.reqValid ∧ t.reqWord = s.reqWord ∧
    ((∀ p c, i ≠ .getData p c) → t.frame = s.frame) ∧
    ((∀ p c, i ≠ .beginOp p c) → t.begun = s.begun ∧ t.opened = s.opened) ∧
    ((∃ p c, i = .beginOp p c ∨ i = .getData p c) ∨ (∃ r, i = .reservedOp0 r) →
      t.curCmd = s.curCmd ∧ t.reply = s.reply ∧ t.rlen = s.rlen ∧ t.txq = s.txq) ∧
    ((∃ p c, i = .beginOp p c) ∨ (∃ r, i = .reservedOp0 r) → t.rxq = s.rxq)

/-- R254. Two states that differ at most in what earlier operations left behind (TMR_EXP and TMR_POLLS at
an idle core among it, log 27) take equal steps: the
results differ at most in the same way, the core drives the same outputs, done pulses in both or in
neither, and an operation that completes gives both the same STATUS and OK; a search sees the same
window in both, and a decoded frame gives both the same measurement. TXQ and BEGUN, where they are
equal, stay so. -/
def Obligations.OperationsAreIndependent : Prop :=
  ∀ s t s', s.SameButResults t → step s = .next s' →
    ∃ t', step t = .next t' ∧ s'.SameButResults t' ∧ s'.strobes = t'.strobes ∧
      s'.done = t'.done ∧ (s'.done = true → s'.status = t'.status ∧ s'.ok = t'.ok) ∧
      (s.phase = .gdSync → s'.frame = t'.frame ∧
        (s'.done = true → s'.status ≠ .headerTimeout → s'.status ≠ .checksumFailure →
          s'.dist = t'.dist ∧ s'.flux = t'.flux ∧ s'.temp = t'.temp)) ∧
      (s.phase = .scSync → s'.reply = t'.reply ∧ s'.rlen = t'.rlen) ∧
      (s.txq = t.txq → s'.txq = t'.txq) ∧ (s.begun = t.begun → s'.begun = t'.begun)

/-- R28, R260, R261, R262. Apart from a core reset, BEGUN stays set, and the only steps that set it are a
BEGIN's completions, both in the core's turn: the acceptance of the BEGIN at the port with no transport,
which ends in SERIAL_ERROR, and a BEGIN's last poll iteration, its status the sign of life. -/
def Obligations.BegunSetByBeginOnly : Prop :=
  ∀ s t, s.nextEvent ≠ .hostReset → step s = .next t →
    (s.begun = true → t.begun = true) ∧
    (s.begun = false → t.begun = true →
      s.nextEvent = .core ∧ t.done = true ∧
      (s.phase = .bgSettle ∧ s.tmrExp = true ∧
          t.status = (if s.rxq = [] then .serialError else .ready) ∨
        s.phase = .idle ∧ s.reqValid = true ∧
          (∃ p cmd, decode s.cfg.table s.reqWord = .ok (.beginOp p cmd)) ∧
          s.xportOk = false ∧ t.status = .serialError))

/-! ## The read view and the script syntax -/

/-- R76, with R22, R24 and R29. What every index of the read view holds, and the values of the codes: the
status codes of R24, the phase codes of R22, and MODE as R29 derives it with its codes of R76. -/
def Obligations.ReadViewContents : Prop :=
  ∀ s : State,
    s.readByte 0x00 = 0#4 ++ s.status.code ∧
    s.readByte 0x01 =
      s.mode.code ++ s.phase.code ++ BitVec.ofBool s.begun ++ BitVec.ofBool s.opened ++
        BitVec.ofBool (decide (s.phase ≠ .idle)) ++ BitVec.ofBool s.ok ∧
    s.readByte 0x03 ++ s.readByte 0x02 = s.dist ∧
    s.readByte 0x05 ++ s.readByte 0x04 = s.flux ∧
    s.readByte 0x07 ++ s.readByte 0x06 = s.temp ∧
    (∀ (i : Nat) (h : i < 9), s.readByte (BitVec.ofNat 8 (0x08 + i)) = s.frame[i]) ∧
    s.readByte 0x11 = s.rlen ∧
    (∀ (i : Nat) (h : i < 3), s.readByte (BitVec.ofNat 8 (0x12 + i)) = s.ver[i]) ∧
    (∀ idx : Byte, 0x15 ≤ idx.toNat → idx.toNat ≤ 0x1F → s.readByte idx = 0) ∧
    (∀ (i : Nat) (h : i < 11), s.readByte (BitVec.ofNat 8 (0x20 + i)) = s.reply[i]) ∧
    (∀ idx : Byte, 0x2B ≤ idx.toNat → s.readByte idx = 0) ∧
    s.mode = (if s.begun = false then .uninitialized
      else if s.status = .ready then .ready else .degraded) ∧
    [Status.ready, .serialError, .headerTimeout, .checksumFailure, .timeout, .commandFailed,
      .weakSignal, .strongSignal, .floodSignal, .i2c0, .i2c1, .i2c2].map Status.code =
      [0, 1, 2, 3, 4, 5, 6, 7, 8, 9, 10, 11] ∧
    [Phase.idle, .gdSync, .scSync, .bgSettle].map Phase.code = [0, 1, 2, 3] ∧
    [Mode.uninitialized, .ready, .degraded].map Mode.code = [0, 1, 2]

/-- R44, R45, R75, R76, R350. The host's turns at the input ports and the read view. A host read changes
nothing but the index on the address port, and rd_data is then the byte at that index. A host write
changes nothing but the mark: the model's reading of a refused write (log 13). A host that presents a
request sets req_valid and req_word, a held request giving way to the later value (log 17); one that
reports XPORT_OK sets that input. Nothing else changes but the consumed turn (log 3) and the outputs of the
step before, which end: the model's choice (log 6). -/
def Obligations.HostReadViewAccess : Prop :=
  ∀ s rest,
    (∀ idx, s.sched = .hostRead idx :: rest →
      step s = .next { s with
        sched := rest, done := false, reqRefused := false, strobes := {}, rdIdx := idx } ∧
      ∀ t, step s = .next t → t.rdData = s.readByte idx) ∧
    (∀ idx v, s.sched = .hostWrite idx v :: rest →
      step s = .next { s with
        sched := rest, done := false, reqRefused := false, strobes := {},
        refusalMark := some .readViewWrite }) ∧
    (∀ w, s.sched = .hostRequest w :: rest →
      step s = .next { s with
        sched := rest, done := false, reqRefused := false, strobes := {},
        reqValid := true, reqWord := w }) ∧
    ∀ isOpen, s.sched = .hostXport isOpen :: rest →
      step s = .next { s with
        sched := rest, done := false, reqRefused := false, strobes := {}, xportOk := isOpen }

/-- R104, R105. A script line assembles to a word that decodes to the request it names, under every
valid table; RETRY issues its line again exactly after a completion with OK = 0. The text of a line is
read as R104 writes it: `n` decimal or hexadecimal with `0x`, `;` before a comment. That hexadecimal digits
may be of either case, and how a line divides into tokens, is the model's choice (log 25). -/
def Obligations.ScriptLinesAssemble : Prop :=
  (∀ (t : CmdTable), CmdTable.Valid t →
    assemble t .beginLine = some 0x0000000000000001 ∧
    assemble t .getDataLine = some 0x0000000000000002 ∧
    (∀ c n, n < 2 ^ 24 →
      ∃ w, assemble t (.sendCmd c n) = some w ∧
        decode t w = .ok (Instr.named c (BitVec.ofNat 24 n))) ∧
    (∀ (cmd : CmdWord) n, n < 2 ^ 24 →
      ∃ w, assemble t (.sendWord cmd.toNat n) = some w ∧
        decode t w = .ok (Instr.ofSend t cmd (BitVec.ofNat 24 n))) ∧
    (∀ n, assemble t (.setFps n) = assemble t (.sendCmd .setFrameRate n)) ∧
    (∀ n, assemble t (.setBaud n) = assemble t (.sendCmd .setBaudRate n)) ∧
    assemble t .trigger = assemble t (.sendCmd .triggerDetection 0) ∧
    assemble t .getVersion = assemble t (.sendCmd .getFirmwareVersion 0) ∧
    (∀ l rest, assemble t (.retry l) = assemble t l ∧
      afterCompletion (.retry l :: rest) false = .retry l :: rest ∧
      afterCompletion (.retry l :: rest) true = rest)) ∧
  (∀ ds : List (Fin 10), ds ≠ [] →
    number? (ds.map fun d => Char.ofNat (48 + d.val)) =
      some (ds.foldl (fun a d => a * 10 + d.val) 0)) ∧
  (∀ ds : List (Fin 16 × Bool), ds ≠ [] →
    number? ('0' :: 'x' :: ds.map fun (d, upper) =>
        Char.ofNat (if d.val < 10 then 48 + d.val else if upper then 55 + d.val else 87 + d.val)) =
      some (ds.foldl (fun a d => a * 16 + d.1.val) 0)) ∧
  parseLine "BEGIN" = some .beginLine ∧ parseLine "GETDATA" = some .getDataLine ∧
  parseLine "TRIGGER" = some .trigger ∧ parseLine "GETVERSION" = some .getVersion ∧
  (∀ (w : String) n, number? w.toList = some n →
    parseLine ("SETFPS " ++ w) = some (.setFps n) ∧
    parseLine ("SETBAUD " ++ w) = some (.setBaud n) ∧
    (∀ c : Cmd, parseLine ("SENDCMD " ++ Cmd.mnemonic c ++ ", " ++ w) = some (.sendCmd c n)) ∧
    ∀ (lit : String) m, number? lit.toList = some m →
      parseLine ("SENDCMD #" ++ lit ++ ", " ++ w) = some (.sendWord m n)) ∧
  (∀ c : Cmd, parseLine ("SENDCMD " ++ Cmd.mnemonic c) = some (.sendCmd c 0)) ∧
  (∀ line : String, parseLine ("RETRY " ++ line) = (parseLine line).map .retry) ∧
  ∀ line comment : String, parseLine (line ++ ";" ++ comment) = parseLine line
end

