-- ==== Sys2Proof/Laws/Decode.lean ====
section
/-! SUPPORT. The fields of a packed request word, and the lookup of a word in the command table. -/

namespace Sys2Proof

open Sys2Proof.Machine

@[simp] theorem reqOp_packReq (c : CmdWord) (p : Param) (op : BitVec 2) :
    reqOp (packReq c p op) = op := by
  unfold reqOp packReq
  ext i
  simp
  grind

@[simp] theorem reqRsv_packReq (c : CmdWord) (p : Param) (op : BitVec 2) :
    reqRsv (packReq c p op) = 0 := by
  unfold reqRsv packReq
  ext i
  simp
  grind

@[simp] theorem reqParam_packReq (c : CmdWord) (p : Param) (op : BitVec 2) :
    reqParam (packReq c p op) = p := by
  unfold reqParam packReq
  ext i
  simp
  grind

@[simp] theorem reqCmd_packReq (c : CmdWord) (p : Param) (op : BitVec 2) :
    reqCmd (packReq c p op) = c := by
  unfold reqCmd packReq
  ext i
  simp
  grind

@[simp] theorem reqOp_reserved (r : BitVec 62) : reqOp (r ++ 0#2) = 0 := by
  unfold reqOp
  ext i
  simp
  grind

/-- A request word is its fields (R90). -/
theorem packReq_fields {w : ReqWord} (h : reqRsv w = 0) :
    packReq (reqCmd w) (reqParam w) (reqOp w) = w := by
  have hb : ∀ i < 6, w.getLsbD (2 + i) = false := by
    intro i hi
    have := congrArg (fun v : BitVec 6 => v.getLsbD i) h
    simpa [reqRsv, hi] using this
  apply BitVec.eq_of_getLsbD_eq
  intro i hi
  simp only [packReq, reqCmd, reqParam, reqOp, BitVec.getLsbD_append,
    BitVec.getLsbD_extractLsb', BitVec.getLsbD_zero]
  by_cases h1 : i < 2
  · simp [h1]
  · by_cases h2 : i - 2 < 6
    · have := hb (i - 2) h2
      rw [show 2 + (i - 2) = i by omega] at this
      simp [h1, h2, this]
    · by_cases h3 : i - 2 - 6 < 24
      · simp [h1, h2, h3, show 8 + (i - 2 - 6) = i by omega]
      · have h4 : i - 2 - 6 - 24 < 32 := by omega
        simp [h1, h2, h3, h4, show 32 + (i - 2 - 6 - 24) = i by omega]

/-- A word with OP = 0 is its upper 62 bits (R90, R103). -/
theorem reserved_fields {w : ReqWord} (h : reqOp w = 0) : w.extractLsb' 2 62 ++ 0#2 = w := by
  have hb : ∀ i < 2, w.getLsbD i = false := by
    intro i hi
    have := congrArg (fun v : BitVec 2 => v.getLsbD i) h
    simpa [reqOp, hi] using this
  apply BitVec.eq_of_getLsbD_eq
  intro i hi
  simp only [BitVec.getLsbD_append, BitVec.getLsbD_extractLsb', BitVec.getLsbD_zero]
  by_cases h1 : i < 2
  · simp [h1, hb i h1]
  · have h2 : i - 2 < 62 := by omega
    simp [h1, h2, show 2 + (i - 2) = i by omega]

/-- Every named command is in the list of all. -/
theorem Cmd.mem_all (c : Cmd) : c ∈ Cmd.all := by
  cases c <;> decide

/-- The name a lookup answers has the word looked up. -/
theorem CmdTable.find?_some {t : CmdTable} {cmd : CmdWord} {c : Cmd} (h : t.find? cmd = some c) :
    t.word c = cmd := by
  have := List.find?_some h
  simpa using this

/-- In a table of distinct words, each name is found by its word (R8, R100). -/
theorem CmdTable.find?_word {t : CmdTable} (h : t.Distinct) (c : Cmd) :
    t.find? (t.word c) = some c := by
  cases hf : t.find? (t.word c) with
  | none =>
    have := List.find?_eq_none.1 hf c (Cmd.mem_all c)
    simp at this
  | some d =>
    rw [List.inj_on_of_nodup_map h (Cmd.mem_all d) (Cmd.mem_all c) (CmdTable.find?_some hf)]

/-- The word of a named request (R99, R104). -/
theorem encode_named (t : CmdTable) (c : Cmd) (p : Param) :
    encode t (Instr.named c p) = packReq (t.word c) p 3 := by
  cases c <;> rfl

/-- A named request needs no condition to be encoded. -/
theorem encodable_named (t : CmdTable) (c : Cmd) (p : Param) :
    Instr.Encodable t (Instr.named c p) := by
  cases c <;> trivial

end Sys2Proof
end

