-- ==== Sys2Proof/Laws/State.lean ====
section
/-! SUPPORT. Each named update of the state, field by field. -/

namespace Sys2Proof.Machine

/-! ### complete -/

@[simp] theorem State.complete_phase (s : State) (st : Status) : (s.complete st).phase = .idle := rfl
@[simp] theorem State.complete_status (s : State) (st : Status) : (s.complete st).status = st := rfl
@[simp] theorem State.complete_ok (s : State) (st : Status) : (s.complete st).ok = okOf st := rfl
@[simp] theorem State.complete_opened (s : State) (st : Status) : (s.complete st).opened = s.opened := rfl
@[simp] theorem State.complete_begun (s : State) (st : Status) : (s.complete st).begun = s.begun := rfl
@[simp] theorem State.complete_dist (s : State) (st : Status) : (s.complete st).dist = s.dist := rfl
@[simp] theorem State.complete_flux (s : State) (st : Status) : (s.complete st).flux = s.flux := rfl
@[simp] theorem State.complete_temp (s : State) (st : Status) : (s.complete st).temp = s.temp := rfl
@[simp] theorem State.complete_frame (s : State) (st : Status) : (s.complete st).frame = s.frame := rfl
@[simp] theorem State.complete_reply (s : State) (st : Status) : (s.complete st).reply = s.reply := rfl
@[simp] theorem State.complete_rlen (s : State) (st : Status) : (s.complete st).rlen = s.rlen := rfl
@[simp] theorem State.complete_ver (s : State) (st : Status) : (s.complete st).ver = s.ver := rfl
@[simp] theorem State.complete_curCmd (s : State) (st : Status) : (s.complete st).curCmd = s.curCmd := rfl
@[simp] theorem State.complete_done (s : State) (st : Status) : (s.complete st).done = true := rfl
@[simp] theorem State.complete_reqRefused (s : State) (st : Status) : (s.complete st).reqRefused = s.reqRefused := rfl
@[simp] theorem State.complete_refusalMark (s : State) (st : Status) : (s.complete st).refusalMark = s.refusalMark := rfl
@[simp] theorem State.complete_strobes (s : State) (st : Status) : (s.complete st).strobes = s.strobes := rfl
@[simp] theorem State.complete_tmr (s : State) (st : Status) : (s.complete st).tmr = .none := rfl
@[simp] theorem State.complete_tmrExp (s : State) (st : Status) : (s.complete st).tmrExp = s.tmrExp := rfl
@[simp] theorem State.complete_tmrPolls (s : State) (st : Status) : (s.complete st).tmrPolls = s.tmrPolls := rfl
@[simp] theorem State.complete_rxq (s : State) (st : Status) : (s.complete st).rxq = s.rxq := rfl
@[simp] theorem State.complete_txq (s : State) (st : Status) : (s.complete st).txq = s.txq := rfl
@[simp] theorem State.complete_wire (s : State) (st : Status) : (s.complete st).wire = s.wire := rfl
@[simp] theorem State.complete_reqValid (s : State) (st : Status) : (s.complete st).reqValid = s.reqValid := rfl
@[simp] theorem State.complete_reqWord (s : State) (st : Status) : (s.complete st).reqWord = s.reqWord := rfl
@[simp] theorem State.complete_xportOk (s : State) (st : Status) : (s.complete st).xportOk = s.xportOk := rfl
@[simp] theorem State.complete_rdIdx (s : State) (st : Status) : (s.complete st).rdIdx = s.rdIdx := rfl
@[simp] theorem State.complete_cfg (s : State) (st : Status) : (s.complete st).cfg = s.cfg := rfl
@[simp] theorem State.complete_sched (s : State) (st : Status) : (s.complete st).sched = s.sched := rfl
@[simp] theorem State.complete_tick (s : State) (st : Status) : (s.complete st).tick = s.tick := rfl

/-! ### completeBegin -/

@[simp] theorem State.completeBegin_phase (s : State) (st : Status) : (s.completeBegin st).phase = .idle := rfl
@[simp] theorem State.completeBegin_status (s : State) (st : Status) : (s.completeBegin st).status = st := rfl
@[simp] theorem State.completeBegin_ok (s : State) (st : Status) : (s.completeBegin st).ok = okOf st := rfl
@[simp] theorem State.completeBegin_opened (s : State) (st : Status) : (s.completeBegin st).opened = s.opened := rfl
@[simp] theorem State.completeBegin_begun (s : State) (st : Status) : (s.completeBegin st).begun = true := rfl
@[simp] theorem State.completeBegin_dist (s : State) (st : Status) : (s.completeBegin st).dist = s.dist := rfl
@[simp] theorem State.completeBegin_flux (s : State) (st : Status) : (s.completeBegin st).flux = s.flux := rfl
@[simp] theorem State.completeBegin_temp (s : State) (st : Status) : (s.completeBegin st).temp = s.temp := rfl
@[simp] theorem State.completeBegin_frame (s : State) (st : Status) : (s.completeBegin st).frame = s.frame := rfl
@[simp] theorem State.completeBegin_reply (s : State) (st : Status) : (s.completeBegin st).reply = s.reply := rfl
@[simp] theorem State.completeBegin_rlen (s : State) (st : Status) : (s.completeBegin st).rlen = s.rlen := rfl
@[simp] theorem State.completeBegin_ver (s : State) (st : Status) : (s.completeBegin st).ver = s.ver := rfl
@[simp] theorem State.completeBegin_curCmd (s : State) (st : Status) : (s.completeBegin st).curCmd = s.curCmd := rfl
@[simp] theorem State.completeBegin_done (s : State) (st : Status) : (s.completeBegin st).done = true := rfl
@[simp] theorem State.completeBegin_reqRefused (s : State) (st : Status) : (s.completeBegin st).reqRefused = s.reqRefused := rfl
@[simp] theorem State.completeBegin_refusalMark (s : State) (st : Status) : (s.completeBegin st).refusalMark = s.refusalMark := rfl
@[simp] theorem State.completeBegin_strobes (s : State) (st : Status) : (s.completeBegin st).strobes = s.strobes := rfl
@[simp] theorem State.completeBegin_tmr (s : State) (st : Status) : (s.completeBegin st).tmr = .none := rfl
@[simp] theorem State.completeBegin_tmrExp (s : State) (st : Status) : (s.completeBegin st).tmrExp = s.tmrExp := rfl
@[simp] theorem State.completeBegin_tmrPolls (s : State) (st : Status) : (s.completeBegin st).tmrPolls = s.tmrPolls := rfl
@[simp] theorem State.completeBegin_rxq (s : State) (st : Status) : (s.completeBegin st).rxq = s.rxq := rfl
@[simp] theorem State.completeBegin_txq (s : State) (st : Status) : (s.completeBegin st).txq = s.txq := rfl
@[simp] theorem State.completeBegin_wire (s : State) (st : Status) : (s.completeBegin st).wire = s.wire := rfl
@[simp] theorem State.completeBegin_reqValid (s : State) (st : Status) : (s.completeBegin st).reqValid = s.reqValid := rfl
@[simp] theorem State.completeBegin_reqWord (s : State) (st : Status) : (s.completeBegin st).reqWord = s.reqWord := rfl
@[simp] theorem State.completeBegin_xportOk (s : State) (st : Status) : (s.completeBegin st).xportOk = s.xportOk := rfl
@[simp] theorem State.completeBegin_rdIdx (s : State) (st : Status) : (s.completeBegin st).rdIdx = s.rdIdx := rfl
@[simp] theorem State.completeBegin_cfg (s : State) (st : Status) : (s.completeBegin st).cfg = s.cfg := rfl
@[simp] theorem State.completeBegin_sched (s : State) (st : Status) : (s.completeBegin st).sched = s.sched := rfl
@[simp] theorem State.completeBegin_tick (s : State) (st : Status) : (s.completeBegin st).tick = s.tick := rfl

/-! ### refuse -/

@[simp] theorem State.refuse_phase (s : State) (r : RefuseReason) : (s.refuse r).phase = s.phase := rfl
@[simp] theorem State.refuse_status (s : State) (r : RefuseReason) : (s.refuse r).status = s.status := rfl
@[simp] theorem State.refuse_ok (s : State) (r : RefuseReason) : (s.refuse r).ok = s.ok := rfl
@[simp] theorem State.refuse_opened (s : State) (r : RefuseReason) : (s.refuse r).opened = s.opened := rfl
@[simp] theorem State.refuse_begun (s : State) (r : RefuseReason) : (s.refuse r).begun = s.begun := rfl
@[simp] theorem State.refuse_dist (s : State) (r : RefuseReason) : (s.refuse r).dist = s.dist := rfl
@[simp] theorem State.refuse_flux (s : State) (r : RefuseReason) : (s.refuse r).flux = s.flux := rfl
@[simp] theorem State.refuse_temp (s : State) (r : RefuseReason) : (s.refuse r).temp = s.temp := rfl
@[simp] theorem State.refuse_frame (s : State) (r : RefuseReason) : (s.refuse r).frame = s.frame := rfl
@[simp] theorem State.refuse_reply (s : State) (r : RefuseReason) : (s.refuse r).reply = s.reply := rfl
@[simp] theorem State.refuse_rlen (s : State) (r : RefuseReason) : (s.refuse r).rlen = s.rlen := rfl
@[simp] theorem State.refuse_ver (s : State) (r : RefuseReason) : (s.refuse r).ver = s.ver := rfl
@[simp] theorem State.refuse_curCmd (s : State) (r : RefuseReason) : (s.refuse r).curCmd = s.curCmd := rfl
@[simp] theorem State.refuse_done (s : State) (r : RefuseReason) : (s.refuse r).done = s.done := rfl
@[simp] theorem State.refuse_reqRefused (s : State) (r : RefuseReason) : (s.refuse r).reqRefused = true := rfl
@[simp] theorem State.refuse_refusalMark (s : State) (r : RefuseReason) : (s.refuse r).refusalMark = some r := rfl
@[simp] theorem State.refuse_strobes (s : State) (r : RefuseReason) : (s.refuse r).strobes = s.strobes := rfl
@[simp] theorem State.refuse_tmr (s : State) (r : RefuseReason) : (s.refuse r).tmr = s.tmr := rfl
@[simp] theorem State.refuse_tmrExp (s : State) (r : RefuseReason) : (s.refuse r).tmrExp = s.tmrExp := rfl
@[simp] theorem State.refuse_tmrPolls (s : State) (r : RefuseReason) : (s.refuse r).tmrPolls = s.tmrPolls := rfl
@[simp] theorem State.refuse_rxq (s : State) (r : RefuseReason) : (s.refuse r).rxq = s.rxq := rfl
@[simp] theorem State.refuse_txq (s : State) (r : RefuseReason) : (s.refuse r).txq = s.txq := rfl
@[simp] theorem State.refuse_wire (s : State) (r : RefuseReason) : (s.refuse r).wire = s.wire := rfl
@[simp] theorem State.refuse_reqValid (s : State) (r : RefuseReason) : (s.refuse r).reqValid = s.reqValid := rfl
@[simp] theorem State.refuse_reqWord (s : State) (r : RefuseReason) : (s.refuse r).reqWord = s.reqWord := rfl
@[simp] theorem State.refuse_xportOk (s : State) (r : RefuseReason) : (s.refuse r).xportOk = s.xportOk := rfl
@[simp] theorem State.refuse_rdIdx (s : State) (r : RefuseReason) : (s.refuse r).rdIdx = s.rdIdx := rfl
@[simp] theorem State.refuse_cfg (s : State) (r : RefuseReason) : (s.refuse r).cfg = s.cfg := rfl
@[simp] theorem State.refuse_sched (s : State) (r : RefuseReason) : (s.refuse r).sched = s.sched := rfl
@[simp] theorem State.refuse_tick (s : State) (r : RefuseReason) : (s.refuse r).tick = s.tick := rfl

/-! ### takeRequest -/

@[simp] theorem State.takeRequest_phase (s : State) : (s.takeRequest).phase = s.phase := rfl
@[simp] theorem State.takeRequest_status (s : State) : (s.takeRequest).status = s.status := rfl
@[simp] theorem State.takeRequest_ok (s : State) : (s.takeRequest).ok = s.ok := rfl
@[simp] theorem State.takeRequest_opened (s : State) : (s.takeRequest).opened = s.opened := rfl
@[simp] theorem State.takeRequest_begun (s : State) : (s.takeRequest).begun = s.begun := rfl
@[simp] theorem State.takeRequest_dist (s : State) : (s.takeRequest).dist = s.dist := rfl
@[simp] theorem State.takeRequest_flux (s : State) : (s.takeRequest).flux = s.flux := rfl
@[simp] theorem State.takeRequest_temp (s : State) : (s.takeRequest).temp = s.temp := rfl
@[simp] theorem State.takeRequest_frame (s : State) : (s.takeRequest).frame = s.frame := rfl
@[simp] theorem State.takeRequest_reply (s : State) : (s.takeRequest).reply = s.reply := rfl
@[simp] theorem State.takeRequest_rlen (s : State) : (s.takeRequest).rlen = s.rlen := rfl
@[simp] theorem State.takeRequest_ver (s : State) : (s.takeRequest).ver = s.ver := rfl
@[simp] theorem State.takeRequest_curCmd (s : State) : (s.takeRequest).curCmd = s.curCmd := rfl
@[simp] theorem State.takeRequest_done (s : State) : (s.takeRequest).done = s.done := rfl
@[simp] theorem State.takeRequest_reqRefused (s : State) : (s.takeRequest).reqRefused = s.reqRefused := rfl
@[simp] theorem State.takeRequest_refusalMark (s : State) : (s.takeRequest).refusalMark = s.refusalMark := rfl
@[simp] theorem State.takeRequest_strobes (s : State) : (s.takeRequest).strobes = s.strobes := rfl
@[simp] theorem State.takeRequest_tmr (s : State) : (s.takeRequest).tmr = s.tmr := rfl
@[simp] theorem State.takeRequest_tmrExp (s : State) : (s.takeRequest).tmrExp = s.tmrExp := rfl
@[simp] theorem State.takeRequest_tmrPolls (s : State) : (s.takeRequest).tmrPolls = s.tmrPolls := rfl
@[simp] theorem State.takeRequest_rxq (s : State) : (s.takeRequest).rxq = s.rxq := rfl
@[simp] theorem State.takeRequest_txq (s : State) : (s.takeRequest).txq = s.txq := rfl
@[simp] theorem State.takeRequest_wire (s : State) : (s.takeRequest).wire = s.wire := rfl
@[simp] theorem State.takeRequest_reqValid (s : State) : (s.takeRequest).reqValid = false := rfl
@[simp] theorem State.takeRequest_reqWord (s : State) : (s.takeRequest).reqWord = s.reqWord := rfl
@[simp] theorem State.takeRequest_xportOk (s : State) : (s.takeRequest).xportOk = s.xportOk := rfl
@[simp] theorem State.takeRequest_rdIdx (s : State) : (s.takeRequest).rdIdx = s.rdIdx := rfl
@[simp] theorem State.takeRequest_cfg (s : State) : (s.takeRequest).cfg = s.cfg := rfl
@[simp] theorem State.takeRequest_sched (s : State) : (s.takeRequest).sched = s.sched := rfl
@[simp] theorem State.takeRequest_tick (s : State) : (s.takeRequest).tick = s.tick := rfl

/-! ### timerStart -/

@[simp] theorem State.timerStart_phase (s : State) (T : Timer) : (s.timerStart T).phase = s.phase := rfl
@[simp] theorem State.timerStart_status (s : State) (T : Timer) : (s.timerStart T).status = s.status := rfl
@[simp] theorem State.timerStart_ok (s : State) (T : Timer) : (s.timerStart T).ok = s.ok := rfl
@[simp] theorem State.timerStart_opened (s : State) (T : Timer) : (s.timerStart T).opened = s.opened := rfl
@[simp] theorem State.timerStart_begun (s : State) (T : Timer) : (s.timerStart T).begun = s.begun := rfl
@[simp] theorem State.timerStart_dist (s : State) (T : Timer) : (s.timerStart T).dist = s.dist := rfl
@[simp] theorem State.timerStart_flux (s : State) (T : Timer) : (s.timerStart T).flux = s.flux := rfl
@[simp] theorem State.timerStart_temp (s : State) (T : Timer) : (s.timerStart T).temp = s.temp := rfl
@[simp] theorem State.timerStart_frame (s : State) (T : Timer) : (s.timerStart T).frame = s.frame := rfl
@[simp] theorem State.timerStart_reply (s : State) (T : Timer) : (s.timerStart T).reply = s.reply := rfl
@[simp] theorem State.timerStart_rlen (s : State) (T : Timer) : (s.timerStart T).rlen = s.rlen := rfl
@[simp] theorem State.timerStart_ver (s : State) (T : Timer) : (s.timerStart T).ver = s.ver := rfl
@[simp] theorem State.timerStart_curCmd (s : State) (T : Timer) : (s.timerStart T).curCmd = s.curCmd := rfl
@[simp] theorem State.timerStart_done (s : State) (T : Timer) : (s.timerStart T).done = s.done := rfl
@[simp] theorem State.timerStart_reqRefused (s : State) (T : Timer) : (s.timerStart T).reqRefused = s.reqRefused := rfl
@[simp] theorem State.timerStart_refusalMark (s : State) (T : Timer) : (s.timerStart T).refusalMark = s.refusalMark := rfl
@[simp] theorem State.timerStart_strobes (s : State) (T : Timer) : (s.timerStart T).strobes = { s.strobes with tmrStart := true, tmrSel := T } := rfl
@[simp] theorem State.timerStart_tmr (s : State) (T : Timer) : (s.timerStart T).tmr = T := rfl
@[simp] theorem State.timerStart_tmrExp (s : State) (T : Timer) : (s.timerStart T).tmrExp = false := rfl
@[simp] theorem State.timerStart_tmrPolls (s : State) (T : Timer) : (s.timerStart T).tmrPolls = 0 := rfl
@[simp] theorem State.timerStart_rxq (s : State) (T : Timer) : (s.timerStart T).rxq = s.rxq := rfl
@[simp] theorem State.timerStart_txq (s : State) (T : Timer) : (s.timerStart T).txq = s.txq := rfl
@[simp] theorem State.timerStart_wire (s : State) (T : Timer) : (s.timerStart T).wire = s.wire := rfl
@[simp] theorem State.timerStart_reqValid (s : State) (T : Timer) : (s.timerStart T).reqValid = s.reqValid := rfl
@[simp] theorem State.timerStart_reqWord (s : State) (T : Timer) : (s.timerStart T).reqWord = s.reqWord := rfl
@[simp] theorem State.timerStart_xportOk (s : State) (T : Timer) : (s.timerStart T).xportOk = s.xportOk := rfl
@[simp] theorem State.timerStart_rdIdx (s : State) (T : Timer) : (s.timerStart T).rdIdx = s.rdIdx := rfl
@[simp] theorem State.timerStart_cfg (s : State) (T : Timer) : (s.timerStart T).cfg = s.cfg := rfl
@[simp] theorem State.timerStart_sched (s : State) (T : Timer) : (s.timerStart T).sched = s.sched := rfl
@[simp] theorem State.timerStart_tick (s : State) (T : Timer) : (s.timerStart T).tick = s.tick := rfl

/-! ### countPoll -/

@[simp] theorem State.countPoll_phase (s : State) : (s.countPoll).phase = s.phase := rfl
@[simp] theorem State.countPoll_status (s : State) : (s.countPoll).status = s.status := rfl
@[simp] theorem State.countPoll_ok (s : State) : (s.countPoll).ok = s.ok := rfl
@[simp] theorem State.countPoll_opened (s : State) : (s.countPoll).opened = s.opened := rfl
@[simp] theorem State.countPoll_begun (s : State) : (s.countPoll).begun = s.begun := rfl
@[simp] theorem State.countPoll_dist (s : State) : (s.countPoll).dist = s.dist := rfl
@[simp] theorem State.countPoll_flux (s : State) : (s.countPoll).flux = s.flux := rfl
@[simp] theorem State.countPoll_temp (s : State) : (s.countPoll).temp = s.temp := rfl
@[simp] theorem State.countPoll_frame (s : State) : (s.countPoll).frame = s.frame := rfl
@[simp] theorem State.countPoll_reply (s : State) : (s.countPoll).reply = s.reply := rfl
@[simp] theorem State.countPoll_rlen (s : State) : (s.countPoll).rlen = s.rlen := rfl
@[simp] theorem State.countPoll_ver (s : State) : (s.countPoll).ver = s.ver := rfl
@[simp] theorem State.countPoll_curCmd (s : State) : (s.countPoll).curCmd = s.curCmd := rfl
@[simp] theorem State.countPoll_done (s : State) : (s.countPoll).done = s.done := rfl
@[simp] theorem State.countPoll_reqRefused (s : State) : (s.countPoll).reqRefused = s.reqRefused := rfl
@[simp] theorem State.countPoll_refusalMark (s : State) : (s.countPoll).refusalMark = s.refusalMark := rfl
@[simp] theorem State.countPoll_strobes (s : State) : (s.countPoll).strobes = s.strobes := rfl
@[simp] theorem State.countPoll_tmr (s : State) : (s.countPoll).tmr = s.tmr := rfl
@[simp] theorem State.countPoll_tmrExp (s : State) : (s.countPoll).tmrExp = s.tmrExp := rfl
@[simp] theorem State.countPoll_tmrPolls (s : State) : (s.countPoll).tmrPolls = s.tmrPolls + 1 := rfl
@[simp] theorem State.countPoll_rxq (s : State) : (s.countPoll).rxq = s.rxq := rfl
@[simp] theorem State.countPoll_txq (s : State) : (s.countPoll).txq = s.txq := rfl
@[simp] theorem State.countPoll_wire (s : State) : (s.countPoll).wire = s.wire := rfl
@[simp] theorem State.countPoll_reqValid (s : State) : (s.countPoll).reqValid = s.reqValid := rfl
@[simp] theorem State.countPoll_reqWord (s : State) : (s.countPoll).reqWord = s.reqWord := rfl
@[simp] theorem State.countPoll_xportOk (s : State) : (s.countPoll).xportOk = s.xportOk := rfl
@[simp] theorem State.countPoll_rdIdx (s : State) : (s.countPoll).rdIdx = s.rdIdx := rfl
@[simp] theorem State.countPoll_cfg (s : State) : (s.countPoll).cfg = s.cfg := rfl
@[simp] theorem State.countPoll_sched (s : State) : (s.countPoll).sched = s.sched := rfl
@[simp] theorem State.countPoll_tick (s : State) : (s.countPoll).tick = s.tick := rfl

/-! ### rxDiscardOldest -/

@[simp] theorem State.rxDiscardOldest_phase (s : State) (n : Nat) : (s.rxDiscardOldest n).phase = s.phase := rfl
@[simp] theorem State.rxDiscardOldest_status (s : State) (n : Nat) : (s.rxDiscardOldest n).status = s.status := rfl
@[simp] theorem State.rxDiscardOldest_ok (s : State) (n : Nat) : (s.rxDiscardOldest n).ok = s.ok := rfl
@[simp] theorem State.rxDiscardOldest_opened (s : State) (n : Nat) : (s.rxDiscardOldest n).opened = s.opened := rfl
@[simp] theorem State.rxDiscardOldest_begun (s : State) (n : Nat) : (s.rxDiscardOldest n).begun = s.begun := rfl
@[simp] theorem State.rxDiscardOldest_dist (s : State) (n : Nat) : (s.rxDiscardOldest n).dist = s.dist := rfl
@[simp] theorem State.rxDiscardOldest_flux (s : State) (n : Nat) : (s.rxDiscardOldest n).flux = s.flux := rfl
@[simp] theorem State.rxDiscardOldest_temp (s : State) (n : Nat) : (s.rxDiscardOldest n).temp = s.temp := rfl
@[simp] theorem State.rxDiscardOldest_frame (s : State) (n : Nat) : (s.rxDiscardOldest n).frame = s.frame := rfl
@[simp] theorem State.rxDiscardOldest_reply (s : State) (n : Nat) : (s.rxDiscardOldest n).reply = s.reply := rfl
@[simp] theorem State.rxDiscardOldest_rlen (s : State) (n : Nat) : (s.rxDiscardOldest n).rlen = s.rlen := rfl
@[simp] theorem State.rxDiscardOldest_ver (s : State) (n : Nat) : (s.rxDiscardOldest n).ver = s.ver := rfl
@[simp] theorem State.rxDiscardOldest_curCmd (s : State) (n : Nat) : (s.rxDiscardOldest n).curCmd = s.curCmd := rfl
@[simp] theorem State.rxDiscardOldest_done (s : State) (n : Nat) : (s.rxDiscardOldest n).done = s.done := rfl
@[simp] theorem State.rxDiscardOldest_reqRefused (s : State) (n : Nat) : (s.rxDiscardOldest n).reqRefused = s.reqRefused := rfl
@[simp] theorem State.rxDiscardOldest_refusalMark (s : State) (n : Nat) : (s.rxDiscardOldest n).refusalMark = s.refusalMark := rfl
@[simp] theorem State.rxDiscardOldest_strobes (s : State) (n : Nat) : (s.rxDiscardOldest n).strobes = { s.strobes with rxDiscard := n } := rfl
@[simp] theorem State.rxDiscardOldest_tmr (s : State) (n : Nat) : (s.rxDiscardOldest n).tmr = s.tmr := rfl
@[simp] theorem State.rxDiscardOldest_tmrExp (s : State) (n : Nat) : (s.rxDiscardOldest n).tmrExp = s.tmrExp := rfl
@[simp] theorem State.rxDiscardOldest_tmrPolls (s : State) (n : Nat) : (s.rxDiscardOldest n).tmrPolls = s.tmrPolls := rfl
@[simp] theorem State.rxDiscardOldest_rxq (s : State) (n : Nat) : (s.rxDiscardOldest n).rxq = s.rxq.drop n := rfl
@[simp] theorem State.rxDiscardOldest_txq (s : State) (n : Nat) : (s.rxDiscardOldest n).txq = s.txq := rfl
@[simp] theorem State.rxDiscardOldest_wire (s : State) (n : Nat) : (s.rxDiscardOldest n).wire = s.wire := rfl
@[simp] theorem State.rxDiscardOldest_reqValid (s : State) (n : Nat) : (s.rxDiscardOldest n).reqValid = s.reqValid := rfl
@[simp] theorem State.rxDiscardOldest_reqWord (s : State) (n : Nat) : (s.rxDiscardOldest n).reqWord = s.reqWord := rfl
@[simp] theorem State.rxDiscardOldest_xportOk (s : State) (n : Nat) : (s.rxDiscardOldest n).xportOk = s.xportOk := rfl
@[simp] theorem State.rxDiscardOldest_rdIdx (s : State) (n : Nat) : (s.rxDiscardOldest n).rdIdx = s.rdIdx := rfl
@[simp] theorem State.rxDiscardOldest_cfg (s : State) (n : Nat) : (s.rxDiscardOldest n).cfg = s.cfg := rfl
@[simp] theorem State.rxDiscardOldest_sched (s : State) (n : Nat) : (s.rxDiscardOldest n).sched = s.sched := rfl
@[simp] theorem State.rxDiscardOldest_tick (s : State) (n : Nat) : (s.rxDiscardOldest n).tick = s.tick := rfl

/-! ### rxFlush -/

@[simp] theorem State.rxFlush_phase (s : State) : (s.rxFlush).phase = s.phase := rfl
@[simp] theorem State.rxFlush_status (s : State) : (s.rxFlush).status = s.status := rfl
@[simp] theorem State.rxFlush_ok (s : State) : (s.rxFlush).ok = s.ok := rfl
@[simp] theorem State.rxFlush_opened (s : State) : (s.rxFlush).opened = s.opened := rfl
@[simp] theorem State.rxFlush_begun (s : State) : (s.rxFlush).begun = s.begun := rfl
@[simp] theorem State.rxFlush_dist (s : State) : (s.rxFlush).dist = s.dist := rfl
@[simp] theorem State.rxFlush_flux (s : State) : (s.rxFlush).flux = s.flux := rfl
@[simp] theorem State.rxFlush_temp (s : State) : (s.rxFlush).temp = s.temp := rfl
@[simp] theorem State.rxFlush_frame (s : State) : (s.rxFlush).frame = s.frame := rfl
@[simp] theorem State.rxFlush_reply (s : State) : (s.rxFlush).reply = s.reply := rfl
@[simp] theorem State.rxFlush_rlen (s : State) : (s.rxFlush).rlen = s.rlen := rfl
@[simp] theorem State.rxFlush_ver (s : State) : (s.rxFlush).ver = s.ver := rfl
@[simp] theorem State.rxFlush_curCmd (s : State) : (s.rxFlush).curCmd = s.curCmd := rfl
@[simp] theorem State.rxFlush_done (s : State) : (s.rxFlush).done = s.done := rfl
@[simp] theorem State.rxFlush_reqRefused (s : State) : (s.rxFlush).reqRefused = s.reqRefused := rfl
@[simp] theorem State.rxFlush_refusalMark (s : State) : (s.rxFlush).refusalMark = s.refusalMark := rfl
@[simp] theorem State.rxFlush_strobes (s : State) : (s.rxFlush).strobes = { s.strobes with rxFlush := true } := rfl
@[simp] theorem State.rxFlush_tmr (s : State) : (s.rxFlush).tmr = s.tmr := rfl
@[simp] theorem State.rxFlush_tmrExp (s : State) : (s.rxFlush).tmrExp = s.tmrExp := rfl
@[simp] theorem State.rxFlush_tmrPolls (s : State) : (s.rxFlush).tmrPolls = s.tmrPolls := rfl
@[simp] theorem State.rxFlush_rxq (s : State) : (s.rxFlush).rxq = [] := rfl
@[simp] theorem State.rxFlush_txq (s : State) : (s.rxFlush).txq = s.txq := rfl
@[simp] theorem State.rxFlush_wire (s : State) : (s.rxFlush).wire = s.wire := rfl
@[simp] theorem State.rxFlush_reqValid (s : State) : (s.rxFlush).reqValid = s.reqValid := rfl
@[simp] theorem State.rxFlush_reqWord (s : State) : (s.rxFlush).reqWord = s.reqWord := rfl
@[simp] theorem State.rxFlush_xportOk (s : State) : (s.rxFlush).xportOk = s.xportOk := rfl
@[simp] theorem State.rxFlush_rdIdx (s : State) : (s.rxFlush).rdIdx = s.rdIdx := rfl
@[simp] theorem State.rxFlush_cfg (s : State) : (s.rxFlush).cfg = s.cfg := rfl
@[simp] theorem State.rxFlush_sched (s : State) : (s.rxFlush).sched = s.sched := rfl
@[simp] theorem State.rxFlush_tick (s : State) : (s.rxFlush).tick = s.tick := rfl

/-! ### txFlush -/

@[simp] theorem State.txFlush_phase (s : State) : (s.txFlush).phase = s.phase := rfl
@[simp] theorem State.txFlush_status (s : State) : (s.txFlush).status = s.status := rfl
@[simp] theorem State.txFlush_ok (s : State) : (s.txFlush).ok = s.ok := rfl
@[simp] theorem State.txFlush_opened (s : State) : (s.txFlush).opened = s.opened := rfl
@[simp] theorem State.txFlush_begun (s : State) : (s.txFlush).begun = s.begun := rfl
@[simp] theorem State.txFlush_dist (s : State) : (s.txFlush).dist = s.dist := rfl
@[simp] theorem State.txFlush_flux (s : State) : (s.txFlush).flux = s.flux := rfl
@[simp] theorem State.txFlush_temp (s : State) : (s.txFlush).temp = s.temp := rfl
@[simp] theorem State.txFlush_frame (s : State) : (s.txFlush).frame = s.frame := rfl
@[simp] theorem State.txFlush_reply (s : State) : (s.txFlush).reply = s.reply := rfl
@[simp] theorem State.txFlush_rlen (s : State) : (s.txFlush).rlen = s.rlen := rfl
@[simp] theorem State.txFlush_ver (s : State) : (s.txFlush).ver = s.ver := rfl
@[simp] theorem State.txFlush_curCmd (s : State) : (s.txFlush).curCmd = s.curCmd := rfl
@[simp] theorem State.txFlush_done (s : State) : (s.txFlush).done = s.done := rfl
@[simp] theorem State.txFlush_reqRefused (s : State) : (s.txFlush).reqRefused = s.reqRefused := rfl
@[simp] theorem State.txFlush_refusalMark (s : State) : (s.txFlush).refusalMark = s.refusalMark := rfl
@[simp] theorem State.txFlush_strobes (s : State) : (s.txFlush).strobes = { s.strobes with txFlush := true } := rfl
@[simp] theorem State.txFlush_tmr (s : State) : (s.txFlush).tmr = s.tmr := rfl
@[simp] theorem State.txFlush_tmrExp (s : State) : (s.txFlush).tmrExp = s.tmrExp := rfl
@[simp] theorem State.txFlush_tmrPolls (s : State) : (s.txFlush).tmrPolls = s.tmrPolls := rfl
@[simp] theorem State.txFlush_rxq (s : State) : (s.txFlush).rxq = s.rxq := rfl
@[simp] theorem State.txFlush_txq (s : State) : (s.txFlush).txq = [] := rfl
@[simp] theorem State.txFlush_wire (s : State) : (s.txFlush).wire = s.wire := rfl
@[simp] theorem State.txFlush_reqValid (s : State) : (s.txFlush).reqValid = s.reqValid := rfl
@[simp] theorem State.txFlush_reqWord (s : State) : (s.txFlush).reqWord = s.reqWord := rfl
@[simp] theorem State.txFlush_xportOk (s : State) : (s.txFlush).xportOk = s.xportOk := rfl
@[simp] theorem State.txFlush_rdIdx (s : State) : (s.txFlush).rdIdx = s.rdIdx := rfl
@[simp] theorem State.txFlush_cfg (s : State) : (s.txFlush).cfg = s.cfg := rfl
@[simp] theorem State.txFlush_sched (s : State) : (s.txFlush).sched = s.sched := rfl
@[simp] theorem State.txFlush_tick (s : State) : (s.txFlush).tick = s.tick := rfl

/-! ### txWrite -/

@[simp] theorem State.txWrite_phase (s : State) (P : List Byte) : (s.txWrite P).phase = s.phase := rfl
@[simp] theorem State.txWrite_status (s : State) (P : List Byte) : (s.txWrite P).status = s.status := rfl
@[simp] theorem State.txWrite_ok (s : State) (P : List Byte) : (s.txWrite P).ok = s.ok := rfl
@[simp] theorem State.txWrite_opened (s : State) (P : List Byte) : (s.txWrite P).opened = s.opened := rfl
@[simp] theorem State.txWrite_begun (s : State) (P : List Byte) : (s.txWrite P).begun = s.begun := rfl
@[simp] theorem State.txWrite_dist (s : State) (P : List Byte) : (s.txWrite P).dist = s.dist := rfl
@[simp] theorem State.txWrite_flux (s : State) (P : List Byte) : (s.txWrite P).flux = s.flux := rfl
@[simp] theorem State.txWrite_temp (s : State) (P : List Byte) : (s.txWrite P).temp = s.temp := rfl
@[simp] theorem State.txWrite_frame (s : State) (P : List Byte) : (s.txWrite P).frame = s.frame := rfl
@[simp] theorem State.txWrite_reply (s : State) (P : List Byte) : (s.txWrite P).reply = s.reply := rfl
@[simp] theorem State.txWrite_rlen (s : State) (P : List Byte) : (s.txWrite P).rlen = s.rlen := rfl
@[simp] theorem State.txWrite_ver (s : State) (P : List Byte) : (s.txWrite P).ver = s.ver := rfl
@[simp] theorem State.txWrite_curCmd (s : State) (P : List Byte) : (s.txWrite P).curCmd = s.curCmd := rfl
@[simp] theorem State.txWrite_done (s : State) (P : List Byte) : (s.txWrite P).done = s.done := rfl
@[simp] theorem State.txWrite_reqRefused (s : State) (P : List Byte) : (s.txWrite P).reqRefused = s.reqRefused := rfl
@[simp] theorem State.txWrite_refusalMark (s : State) (P : List Byte) : (s.txWrite P).refusalMark = s.refusalMark := rfl
@[simp] theorem State.txWrite_strobes (s : State) (P : List Byte) : (s.txWrite P).strobes = { s.strobes with txWrite := true, txData := P } := rfl
@[simp] theorem State.txWrite_tmr (s : State) (P : List Byte) : (s.txWrite P).tmr = s.tmr := rfl
@[simp] theorem State.txWrite_tmrExp (s : State) (P : List Byte) : (s.txWrite P).tmrExp = s.tmrExp := rfl
@[simp] theorem State.txWrite_tmrPolls (s : State) (P : List Byte) : (s.txWrite P).tmrPolls = s.tmrPolls := rfl
@[simp] theorem State.txWrite_rxq (s : State) (P : List Byte) : (s.txWrite P).rxq = s.rxq := rfl
@[simp] theorem State.txWrite_txq (s : State) (P : List Byte) : (s.txWrite P).txq = s.txq ++ P := rfl
@[simp] theorem State.txWrite_wire (s : State) (P : List Byte) : (s.txWrite P).wire = s.wire := rfl
@[simp] theorem State.txWrite_reqValid (s : State) (P : List Byte) : (s.txWrite P).reqValid = s.reqValid := rfl
@[simp] theorem State.txWrite_reqWord (s : State) (P : List Byte) : (s.txWrite P).reqWord = s.reqWord := rfl
@[simp] theorem State.txWrite_xportOk (s : State) (P : List Byte) : (s.txWrite P).xportOk = s.xportOk := rfl
@[simp] theorem State.txWrite_rdIdx (s : State) (P : List Byte) : (s.txWrite P).rdIdx = s.rdIdx := rfl
@[simp] theorem State.txWrite_cfg (s : State) (P : List Byte) : (s.txWrite P).cfg = s.cfg := rfl
@[simp] theorem State.txWrite_sched (s : State) (P : List Byte) : (s.txWrite P).sched = s.sched := rfl
@[simp] theorem State.txWrite_tick (s : State) (P : List Byte) : (s.txWrite P).tick = s.tick := rfl

/-! ### transmit -/

@[simp] theorem State.transmit_phase (s : State) (P : List Byte) : (s.transmit P).phase = s.phase := rfl
@[simp] theorem State.transmit_status (s : State) (P : List Byte) : (s.transmit P).status = s.status := rfl
@[simp] theorem State.transmit_ok (s : State) (P : List Byte) : (s.transmit P).ok = s.ok := rfl
@[simp] theorem State.transmit_opened (s : State) (P : List Byte) : (s.transmit P).opened = s.opened := rfl
@[simp] theorem State.transmit_begun (s : State) (P : List Byte) : (s.transmit P).begun = s.begun := rfl
@[simp] theorem State.transmit_dist (s : State) (P : List Byte) : (s.transmit P).dist = s.dist := rfl
@[simp] theorem State.transmit_flux (s : State) (P : List Byte) : (s.transmit P).flux = s.flux := rfl
@[simp] theorem State.transmit_temp (s : State) (P : List Byte) : (s.transmit P).temp = s.temp := rfl
@[simp] theorem State.transmit_frame (s : State) (P : List Byte) : (s.transmit P).frame = s.frame := rfl
@[simp] theorem State.transmit_reply (s : State) (P : List Byte) : (s.transmit P).reply = s.reply := rfl
@[simp] theorem State.transmit_rlen (s : State) (P : List Byte) : (s.transmit P).rlen = s.rlen := rfl
@[simp] theorem State.transmit_ver (s : State) (P : List Byte) : (s.transmit P).ver = s.ver := rfl
@[simp] theorem State.transmit_curCmd (s : State) (P : List Byte) : (s.transmit P).curCmd = s.curCmd := rfl
@[simp] theorem State.transmit_done (s : State) (P : List Byte) : (s.transmit P).done = s.done := rfl
@[simp] theorem State.transmit_reqRefused (s : State) (P : List Byte) : (s.transmit P).reqRefused = s.reqRefused := rfl
@[simp] theorem State.transmit_refusalMark (s : State) (P : List Byte) : (s.transmit P).refusalMark = s.refusalMark := rfl
@[simp] theorem State.transmit_strobes (s : State) (P : List Byte) : (s.transmit P).strobes = { s.strobes with rxFlush := true, txFlush := true, txWrite := true, txData := P } := rfl
@[simp] theorem State.transmit_tmr (s : State) (P : List Byte) : (s.transmit P).tmr = s.tmr := rfl
@[simp] theorem State.transmit_tmrExp (s : State) (P : List Byte) : (s.transmit P).tmrExp = s.tmrExp := rfl
@[simp] theorem State.transmit_tmrPolls (s : State) (P : List Byte) : (s.transmit P).tmrPolls = s.tmrPolls := rfl
@[simp] theorem State.transmit_rxq (s : State) (P : List Byte) : (s.transmit P).rxq = [] := rfl
@[simp] theorem State.transmit_txq (s : State) (P : List Byte) : (s.transmit P).txq = P := rfl
@[simp] theorem State.transmit_wire (s : State) (P : List Byte) : (s.transmit P).wire = s.wire := rfl
@[simp] theorem State.transmit_reqValid (s : State) (P : List Byte) : (s.transmit P).reqValid = s.reqValid := rfl
@[simp] theorem State.transmit_reqWord (s : State) (P : List Byte) : (s.transmit P).reqWord = s.reqWord := rfl
@[simp] theorem State.transmit_xportOk (s : State) (P : List Byte) : (s.transmit P).xportOk = s.xportOk := rfl
@[simp] theorem State.transmit_rdIdx (s : State) (P : List Byte) : (s.transmit P).rdIdx = s.rdIdx := rfl
@[simp] theorem State.transmit_cfg (s : State) (P : List Byte) : (s.transmit P).cfg = s.cfg := rfl
@[simp] theorem State.transmit_sched (s : State) (P : List Byte) : (s.transmit P).sched = s.sched := rfl
@[simp] theorem State.transmit_tick (s : State) (P : List Byte) : (s.transmit P).tick = s.tick := rfl

/-! ### decodeFrame -/

@[simp] theorem State.decodeFrame_phase (s : State) : (s.decodeFrame).phase = s.phase := rfl
@[simp] theorem State.decodeFrame_status (s : State) : (s.decodeFrame).status = s.status := rfl
@[simp] theorem State.decodeFrame_ok (s : State) : (s.decodeFrame).ok = s.ok := rfl
@[simp] theorem State.decodeFrame_opened (s : State) : (s.decodeFrame).opened = s.opened := rfl
@[simp] theorem State.decodeFrame_begun (s : State) : (s.decodeFrame).begun = s.begun := rfl
@[simp] theorem State.decodeFrame_dist (s : State) : (s.decodeFrame).dist = frameDist s.frame := rfl
@[simp] theorem State.decodeFrame_flux (s : State) : (s.decodeFrame).flux = frameFlux s.frame := rfl
@[simp] theorem State.decodeFrame_temp (s : State) : (s.decodeFrame).temp = tempOf (frameRawTemp s.frame) := rfl
@[simp] theorem State.decodeFrame_frame (s : State) : (s.decodeFrame).frame = s.frame := rfl
@[simp] theorem State.decodeFrame_reply (s : State) : (s.decodeFrame).reply = s.reply := rfl
@[simp] theorem State.decodeFrame_rlen (s : State) : (s.decodeFrame).rlen = s.rlen := rfl
@[simp] theorem State.decodeFrame_ver (s : State) : (s.decodeFrame).ver = s.ver := rfl
@[simp] theorem State.decodeFrame_curCmd (s : State) : (s.decodeFrame).curCmd = s.curCmd := rfl
@[simp] theorem State.decodeFrame_done (s : State) : (s.decodeFrame).done = s.done := rfl
@[simp] theorem State.decodeFrame_reqRefused (s : State) : (s.decodeFrame).reqRefused = s.reqRefused := rfl
@[simp] theorem State.decodeFrame_refusalMark (s : State) : (s.decodeFrame).refusalMark = s.refusalMark := rfl
@[simp] theorem State.decodeFrame_strobes (s : State) : (s.decodeFrame).strobes = s.strobes := rfl
@[simp] theorem State.decodeFrame_tmr (s : State) : (s.decodeFrame).tmr = s.tmr := rfl
@[simp] theorem State.decodeFrame_tmrExp (s : State) : (s.decodeFrame).tmrExp = s.tmrExp := rfl
@[simp] theorem State.decodeFrame_tmrPolls (s : State) : (s.decodeFrame).tmrPolls = s.tmrPolls := rfl
@[simp] theorem State.decodeFrame_rxq (s : State) : (s.decodeFrame).rxq = s.rxq := rfl
@[simp] theorem State.decodeFrame_txq (s : State) : (s.decodeFrame).txq = s.txq := rfl
@[simp] theorem State.decodeFrame_wire (s : State) : (s.decodeFrame).wire = s.wire := rfl
@[simp] theorem State.decodeFrame_reqValid (s : State) : (s.decodeFrame).reqValid = s.reqValid := rfl
@[simp] theorem State.decodeFrame_reqWord (s : State) : (s.decodeFrame).reqWord = s.reqWord := rfl
@[simp] theorem State.decodeFrame_xportOk (s : State) : (s.decodeFrame).xportOk = s.xportOk := rfl
@[simp] theorem State.decodeFrame_rdIdx (s : State) : (s.decodeFrame).rdIdx = s.rdIdx := rfl
@[simp] theorem State.decodeFrame_cfg (s : State) : (s.decodeFrame).cfg = s.cfg := rfl
@[simp] theorem State.decodeFrame_sched (s : State) : (s.decodeFrame).sched = s.sched := rfl
@[simp] theorem State.decodeFrame_tick (s : State) : (s.decodeFrame).tick = s.tick := rfl

/-! ### coreReset -/

@[simp] theorem State.coreReset_phase (s : State) : s.coreReset.phase = State.reset.phase := rfl
@[simp] theorem State.coreReset_status (s : State) : s.coreReset.status = State.reset.status := rfl
@[simp] theorem State.coreReset_ok (s : State) : s.coreReset.ok = State.reset.ok := rfl
@[simp] theorem State.coreReset_opened (s : State) : s.coreReset.opened = State.reset.opened := rfl
@[simp] theorem State.coreReset_begun (s : State) : s.coreReset.begun = State.reset.begun := rfl
@[simp] theorem State.coreReset_dist (s : State) : s.coreReset.dist = State.reset.dist := rfl
@[simp] theorem State.coreReset_flux (s : State) : s.coreReset.flux = State.reset.flux := rfl
@[simp] theorem State.coreReset_temp (s : State) : s.coreReset.temp = State.reset.temp := rfl
@[simp] theorem State.coreReset_frame (s : State) : s.coreReset.frame = State.reset.frame := rfl
@[simp] theorem State.coreReset_reply (s : State) : s.coreReset.reply = State.reset.reply := rfl
@[simp] theorem State.coreReset_rlen (s : State) : s.coreReset.rlen = State.reset.rlen := rfl
@[simp] theorem State.coreReset_ver (s : State) : s.coreReset.ver = State.reset.ver := rfl
@[simp] theorem State.coreReset_curCmd (s : State) : s.coreReset.curCmd = State.reset.curCmd := rfl
@[simp] theorem State.coreReset_done (s : State) : s.coreReset.done = State.reset.done := rfl
@[simp] theorem State.coreReset_reqRefused (s : State) : s.coreReset.reqRefused = State.reset.reqRefused := rfl
@[simp] theorem State.coreReset_refusalMark (s : State) : s.coreReset.refusalMark = State.reset.refusalMark := rfl
@[simp] theorem State.coreReset_strobes (s : State) : s.coreReset.strobes = State.reset.strobes := rfl
@[simp] theorem State.coreReset_tmr (s : State) : s.coreReset.tmr = State.reset.tmr := rfl
@[simp] theorem State.coreReset_tmrExp (s : State) : s.coreReset.tmrExp = State.reset.tmrExp := rfl
@[simp] theorem State.coreReset_tmrPolls (s : State) : s.coreReset.tmrPolls = State.reset.tmrPolls := rfl
@[simp] theorem State.coreReset_rxq (s : State) : s.coreReset.rxq = s.rxq := rfl
@[simp] theorem State.coreReset_txq (s : State) : s.coreReset.txq = s.txq := rfl
@[simp] theorem State.coreReset_wire (s : State) : s.coreReset.wire = s.wire := rfl
@[simp] theorem State.coreReset_reqValid (s : State) : s.coreReset.reqValid = s.reqValid := rfl
@[simp] theorem State.coreReset_reqWord (s : State) : s.coreReset.reqWord = s.reqWord := rfl
@[simp] theorem State.coreReset_xportOk (s : State) : s.coreReset.xportOk = s.xportOk := rfl
@[simp] theorem State.coreReset_rdIdx (s : State) : s.coreReset.rdIdx = s.rdIdx := rfl
@[simp] theorem State.coreReset_cfg (s : State) : s.coreReset.cfg = s.cfg := rfl
@[simp] theorem State.coreReset_sched (s : State) : s.coreReset.sched = s.sched := rfl
@[simp] theorem State.coreReset_tick (s : State) : s.coreReset.tick = s.tick := rfl

/-! ### startStep -/

@[simp] theorem State.startStep_phase (s : State) : s.startStep.phase = s.phase := by unfold State.startStep; split <;> rfl
@[simp] theorem State.startStep_status (s : State) : s.startStep.status = s.status := by unfold State.startStep; split <;> rfl
@[simp] theorem State.startStep_ok (s : State) : s.startStep.ok = s.ok := by unfold State.startStep; split <;> rfl
@[simp] theorem State.startStep_opened (s : State) : s.startStep.opened = s.opened := by unfold State.startStep; split <;> rfl
@[simp] theorem State.startStep_begun (s : State) : s.startStep.begun = s.begun := by unfold State.startStep; split <;> rfl
@[simp] theorem State.startStep_dist (s : State) : s.startStep.dist = s.dist := by unfold State.startStep; split <;> rfl
@[simp] theorem State.startStep_flux (s : State) : s.startStep.flux = s.flux := by unfold State.startStep; split <;> rfl
@[simp] theorem State.startStep_temp (s : State) : s.startStep.temp = s.temp := by unfold State.startStep; split <;> rfl
@[simp] theorem State.startStep_frame (s : State) : s.startStep.frame = s.frame := by unfold State.startStep; split <;> rfl
@[simp] theorem State.startStep_reply (s : State) : s.startStep.reply = s.reply := by unfold State.startStep; split <;> rfl
@[simp] theorem State.startStep_rlen (s : State) : s.startStep.rlen = s.rlen := by unfold State.startStep; split <;> rfl
@[simp] theorem State.startStep_ver (s : State) : s.startStep.ver = s.ver := by unfold State.startStep; split <;> rfl
@[simp] theorem State.startStep_curCmd (s : State) : s.startStep.curCmd = s.curCmd := by unfold State.startStep; split <;> rfl
@[simp] theorem State.startStep_done (s : State) : s.startStep.done = false := by unfold State.startStep; split <;> rfl
@[simp] theorem State.startStep_reqRefused (s : State) : s.startStep.reqRefused = false := by unfold State.startStep; split <;> rfl
@[simp] theorem State.startStep_refusalMark (s : State) : s.startStep.refusalMark = s.refusalMark := by unfold State.startStep; split <;> rfl
@[simp] theorem State.startStep_strobes (s : State) : s.startStep.strobes = {} := by unfold State.startStep; split <;> rfl
@[simp] theorem State.startStep_tmr (s : State) : s.startStep.tmr = s.tmr := by unfold State.startStep; split <;> rfl
@[simp] theorem State.startStep_tmrExp (s : State) : s.startStep.tmrExp = s.tmrExp := by unfold State.startStep; split <;> rfl
@[simp] theorem State.startStep_tmrPolls (s : State) : s.startStep.tmrPolls = s.tmrPolls := by unfold State.startStep; split <;> rfl
@[simp] theorem State.startStep_rxq (s : State) : s.startStep.rxq = s.rxq := by unfold State.startStep; split <;> rfl
@[simp] theorem State.startStep_txq (s : State) : s.startStep.txq = s.txq := by unfold State.startStep; split <;> rfl
@[simp] theorem State.startStep_wire (s : State) : s.startStep.wire = s.wire := by unfold State.startStep; split <;> rfl
@[simp] theorem State.startStep_reqValid (s : State) : s.startStep.reqValid = s.reqValid := by unfold State.startStep; split <;> rfl
@[simp] theorem State.startStep_reqWord (s : State) : s.startStep.reqWord = s.reqWord := by unfold State.startStep; split <;> rfl
@[simp] theorem State.startStep_xportOk (s : State) : s.startStep.xportOk = s.xportOk := by unfold State.startStep; split <;> rfl
@[simp] theorem State.startStep_rdIdx (s : State) : s.startStep.rdIdx = s.rdIdx := by unfold State.startStep; split <;> rfl
@[simp] theorem State.startStep_cfg (s : State) : s.startStep.cfg = s.cfg := by unfold State.startStep; split <;> rfl

/-- A scheduled turn is consumed. -/
theorem State.startStep_of_sched {s : State} {e : Event} {rest : List Event}
    (h : s.sched = e :: rest) :
    s.startStep = { s with sched := rest, done := false, reqRefused := false, strobes := {} } := by
  simp [State.startStep, h]

/-- A scheduled turn is the next one. -/
theorem State.nextEvent_of_sched {s : State} {e : Event} {rest : List Event}
    (h : s.sched = e :: rest) : s.nextEvent = e := by
  simp [State.nextEvent, h]

/-! ### The byte received in a poll iteration -/

@[simp] theorem State.receiveFrameByte_phase (s : State) : s.receiveFrameByte.phase = s.phase := by cases h : s.rxq <;> simp [State.receiveFrameByte, State.rxPop, h]
@[simp] theorem State.receiveFrameByte_status (s : State) : s.receiveFrameByte.status = s.status := by cases h : s.rxq <;> simp [State.receiveFrameByte, State.rxPop, h]
@[simp] theorem State.receiveFrameByte_ok (s : State) : s.receiveFrameByte.ok = s.ok := by cases h : s.rxq <;> simp [State.receiveFrameByte, State.rxPop, h]
@[simp] theorem State.receiveFrameByte_opened (s : State) : s.receiveFrameByte.opened = s.opened := by cases h : s.rxq <;> simp [State.receiveFrameByte, State.rxPop, h]
@[simp] theorem State.receiveFrameByte_begun (s : State) : s.receiveFrameByte.begun = s.begun := by cases h : s.rxq <;> simp [State.receiveFrameByte, State.rxPop, h]
@[simp] theorem State.receiveFrameByte_dist (s : State) : s.receiveFrameByte.dist = s.dist := by cases h : s.rxq <;> simp [State.receiveFrameByte, State.rxPop, h]
@[simp] theorem State.receiveFrameByte_flux (s : State) : s.receiveFrameByte.flux = s.flux := by cases h : s.rxq <;> simp [State.receiveFrameByte, State.rxPop, h]
@[simp] theorem State.receiveFrameByte_temp (s : State) : s.receiveFrameByte.temp = s.temp := by cases h : s.rxq <;> simp [State.receiveFrameByte, State.rxPop, h]
@[simp] theorem State.receiveFrameByte_reply (s : State) : s.receiveFrameByte.reply = s.reply := by cases h : s.rxq <;> simp [State.receiveFrameByte, State.rxPop, h]
@[simp] theorem State.receiveFrameByte_rlen (s : State) : s.receiveFrameByte.rlen = s.rlen := by cases h : s.rxq <;> simp [State.receiveFrameByte, State.rxPop, h]
@[simp] theorem State.receiveFrameByte_ver (s : State) : s.receiveFrameByte.ver = s.ver := by cases h : s.rxq <;> simp [State.receiveFrameByte, State.rxPop, h]
@[simp] theorem State.receiveFrameByte_curCmd (s : State) : s.receiveFrameByte.curCmd = s.curCmd := by cases h : s.rxq <;> simp [State.receiveFrameByte, State.rxPop, h]
@[simp] theorem State.receiveFrameByte_done (s : State) : s.receiveFrameByte.done = s.done := by cases h : s.rxq <;> simp [State.receiveFrameByte, State.rxPop, h]
@[simp] theorem State.receiveFrameByte_reqRefused (s : State) : s.receiveFrameByte.reqRefused = s.reqRefused := by cases h : s.rxq <;> simp [State.receiveFrameByte, State.rxPop, h]
@[simp] theorem State.receiveFrameByte_refusalMark (s : State) : s.receiveFrameByte.refusalMark = s.refusalMark := by cases h : s.rxq <;> simp [State.receiveFrameByte, State.rxPop, h]
@[simp] theorem State.receiveFrameByte_strobes (s : State) : s.receiveFrameByte.strobes = s.strobes.pop s.rxq := by cases h : s.rxq <;> simp [State.receiveFrameByte, State.rxPop, Strobes.pop, h]
@[simp] theorem State.receiveFrameByte_tmr (s : State) : s.receiveFrameByte.tmr = s.tmr := by cases h : s.rxq <;> simp [State.receiveFrameByte, State.rxPop, h]
@[simp] theorem State.receiveFrameByte_tmrExp (s : State) : s.receiveFrameByte.tmrExp = s.tmrExp := by cases h : s.rxq <;> simp [State.receiveFrameByte, State.rxPop, h]
@[simp] theorem State.receiveFrameByte_tmrPolls (s : State) : s.receiveFrameByte.tmrPolls = s.tmrPolls := by cases h : s.rxq <;> simp [State.receiveFrameByte, State.rxPop, h]
@[simp] theorem State.receiveFrameByte_rxq (s : State) : s.receiveFrameByte.rxq = s.rxq.tail := by cases h : s.rxq <;> simp [State.receiveFrameByte, State.rxPop, h]
@[simp] theorem State.receiveFrameByte_txq (s : State) : s.receiveFrameByte.txq = s.txq := by cases h : s.rxq <;> simp [State.receiveFrameByte, State.rxPop, h]
@[simp] theorem State.receiveFrameByte_wire (s : State) : s.receiveFrameByte.wire = s.wire := by cases h : s.rxq <;> simp [State.receiveFrameByte, State.rxPop, h]
@[simp] theorem State.receiveFrameByte_reqValid (s : State) : s.receiveFrameByte.reqValid = s.reqValid := by cases h : s.rxq <;> simp [State.receiveFrameByte, State.rxPop, h]
@[simp] theorem State.receiveFrameByte_reqWord (s : State) : s.receiveFrameByte.reqWord = s.reqWord := by cases h : s.rxq <;> simp [State.receiveFrameByte, State.rxPop, h]
@[simp] theorem State.receiveFrameByte_xportOk (s : State) : s.receiveFrameByte.xportOk = s.xportOk := by cases h : s.rxq <;> simp [State.receiveFrameByte, State.rxPop, h]
@[simp] theorem State.receiveFrameByte_rdIdx (s : State) : s.receiveFrameByte.rdIdx = s.rdIdx := by cases h : s.rxq <;> simp [State.receiveFrameByte, State.rxPop, h]
@[simp] theorem State.receiveFrameByte_cfg (s : State) : s.receiveFrameByte.cfg = s.cfg := by cases h : s.rxq <;> simp [State.receiveFrameByte, State.rxPop, h]
@[simp] theorem State.receiveFrameByte_sched (s : State) : s.receiveFrameByte.sched = s.sched := by cases h : s.rxq <;> simp [State.receiveFrameByte, State.rxPop, h]
@[simp] theorem State.receiveFrameByte_tick (s : State) : s.receiveFrameByte.tick = s.tick := by cases h : s.rxq <;> simp [State.receiveFrameByte, State.rxPop, h]
@[simp] theorem State.receiveReplyByte_phase (s : State) : s.receiveReplyByte.phase = s.phase := by cases h : s.rxq <;> simp [State.receiveReplyByte, State.rxPop, h]
@[simp] theorem State.receiveReplyByte_status (s : State) : s.receiveReplyByte.status = s.status := by cases h : s.rxq <;> simp [State.receiveReplyByte, State.rxPop, h]
@[simp] theorem State.receiveReplyByte_ok (s : State) : s.receiveReplyByte.ok = s.ok := by cases h : s.rxq <;> simp [State.receiveReplyByte, State.rxPop, h]
@[simp] theorem State.receiveReplyByte_opened (s : State) : s.receiveReplyByte.opened = s.opened := by cases h : s.rxq <;> simp [State.receiveReplyByte, State.rxPop, h]
@[simp] theorem State.receiveReplyByte_begun (s : State) : s.receiveReplyByte.begun = s.begun := by cases h : s.rxq <;> simp [State.receiveReplyByte, State.rxPop, h]
@[simp] theorem State.receiveReplyByte_dist (s : State) : s.receiveReplyByte.dist = s.dist := by cases h : s.rxq <;> simp [State.receiveReplyByte, State.rxPop, h]
@[simp] theorem State.receiveReplyByte_flux (s : State) : s.receiveReplyByte.flux = s.flux := by cases h : s.rxq <;> simp [State.receiveReplyByte, State.rxPop, h]
@[simp] theorem State.receiveReplyByte_temp (s : State) : s.receiveReplyByte.temp = s.temp := by cases h : s.rxq <;> simp [State.receiveReplyByte, State.rxPop, h]
@[simp] theorem State.receiveReplyByte_frame (s : State) : s.receiveReplyByte.frame = s.frame := by cases h : s.rxq <;> simp [State.receiveReplyByte, State.rxPop, h]
@[simp] theorem State.receiveReplyByte_rlen (s : State) : s.receiveReplyByte.rlen = s.rlen := by cases h : s.rxq <;> simp [State.receiveReplyByte, State.rxPop, h]
@[simp] theorem State.receiveReplyByte_ver (s : State) : s.receiveReplyByte.ver = s.ver := by cases h : s.rxq <;> simp [State.receiveReplyByte, State.rxPop, h]
@[simp] theorem State.receiveReplyByte_curCmd (s : State) : s.receiveReplyByte.curCmd = s.curCmd := by cases h : s.rxq <;> simp [State.receiveReplyByte, State.rxPop, h]
@[simp] theorem State.receiveReplyByte_done (s : State) : s.receiveReplyByte.done = s.done := by cases h : s.rxq <;> simp [State.receiveReplyByte, State.rxPop, h]
@[simp] theorem State.receiveReplyByte_reqRefused (s : State) : s.receiveReplyByte.reqRefused = s.reqRefused := by cases h : s.rxq <;> simp [State.receiveReplyByte, State.rxPop, h]
@[simp] theorem State.receiveReplyByte_refusalMark (s : State) : s.receiveReplyByte.refusalMark = s.refusalMark := by cases h : s.rxq <;> simp [State.receiveReplyByte, State.rxPop, h]
@[simp] theorem State.receiveReplyByte_strobes (s : State) : s.receiveReplyByte.strobes = s.strobes.pop s.rxq := by cases h : s.rxq <;> simp [State.receiveReplyByte, State.rxPop, Strobes.pop, h]
@[simp] theorem State.receiveReplyByte_tmr (s : State) : s.receiveReplyByte.tmr = s.tmr := by cases h : s.rxq <;> simp [State.receiveReplyByte, State.rxPop, h]
@[simp] theorem State.receiveReplyByte_tmrExp (s : State) : s.receiveReplyByte.tmrExp = s.tmrExp := by cases h : s.rxq <;> simp [State.receiveReplyByte, State.rxPop, h]
@[simp] theorem State.receiveReplyByte_tmrPolls (s : State) : s.receiveReplyByte.tmrPolls = s.tmrPolls := by cases h : s.rxq <;> simp [State.receiveReplyByte, State.rxPop, h]
@[simp] theorem State.receiveReplyByte_rxq (s : State) : s.receiveReplyByte.rxq = s.rxq.tail := by cases h : s.rxq <;> simp [State.receiveReplyByte, State.rxPop, h]
@[simp] theorem State.receiveReplyByte_txq (s : State) : s.receiveReplyByte.txq = s.txq := by cases h : s.rxq <;> simp [State.receiveReplyByte, State.rxPop, h]
@[simp] theorem State.receiveReplyByte_wire (s : State) : s.receiveReplyByte.wire = s.wire := by cases h : s.rxq <;> simp [State.receiveReplyByte, State.rxPop, h]
@[simp] theorem State.receiveReplyByte_reqValid (s : State) : s.receiveReplyByte.reqValid = s.reqValid := by cases h : s.rxq <;> simp [State.receiveReplyByte, State.rxPop, h]
@[simp] theorem State.receiveReplyByte_reqWord (s : State) : s.receiveReplyByte.reqWord = s.reqWord := by cases h : s.rxq <;> simp [State.receiveReplyByte, State.rxPop, h]
@[simp] theorem State.receiveReplyByte_xportOk (s : State) : s.receiveReplyByte.xportOk = s.xportOk := by cases h : s.rxq <;> simp [State.receiveReplyByte, State.rxPop, h]
@[simp] theorem State.receiveReplyByte_rdIdx (s : State) : s.receiveReplyByte.rdIdx = s.rdIdx := by cases h : s.rxq <;> simp [State.receiveReplyByte, State.rxPop, h]
@[simp] theorem State.receiveReplyByte_cfg (s : State) : s.receiveReplyByte.cfg = s.cfg := by cases h : s.rxq <;> simp [State.receiveReplyByte, State.rxPop, h]
@[simp] theorem State.receiveReplyByte_sched (s : State) : s.receiveReplyByte.sched = s.sched := by cases h : s.rxq <;> simp [State.receiveReplyByte, State.rxPop, h]
@[simp] theorem State.receiveReplyByte_tick (s : State) : s.receiveReplyByte.tick = s.tick := by cases h : s.rxq <;> simp [State.receiveReplyByte, State.rxPop, h]

end Sys2Proof.Machine
end

