-- ==== Sys2Proof/Laws/Ops.lean ====
section
/-! SUPPORT. What each shared operation can do, said once: requests at the port, the acceptance steps, the
poll iterations and the agents' turns. -/

namespace Sys2Proof.Machine

/-! ### Requests at the port -/

/-- A request at a busy port waits (R45). -/
theorem request_busy {reason : State → Option RefuseReason} {accept : State → State} {s : State}
    (h : s.phase ≠ .idle) : request reason accept s = .next s := by
  simp [request, h]

/-- A request with no meaning is refused (R253). -/
theorem request_refused {reason : State → Option RefuseReason} {accept : State → State} {s : State}
    {r : RefuseReason} (h : s.phase = .idle) (hr : reason s = some r) :
    request reason accept s = .next (s.refuse r) := by
  simp [request, h, hr]

/-- A request no reason speaks against is accepted (R251). -/
theorem request_accepted {reason : State → Option RefuseReason} {accept : State → State} {s : State}
    (h : s.phase = .idle) (hr : reason s = none) : request reason accept s = .next (accept s) := by
  simp [request, h, hr]

/-- Everything a request can do. -/
theorem request_cases {reason : State → Option RefuseReason} {accept : State → State} {s t : State}
    (h : request reason accept s = .next t) :
    (s.phase ≠ .idle ∧ t = s) ∨
    (s.phase = .idle ∧ ∃ r, reason s = some r ∧ t = s.refuse r) ∨
    (s.phase = .idle ∧ reason s = none ∧ t = accept s) := by
  by_cases hp : s.phase = .idle
  · cases hr : reason s with
    | some r =>
      rw [request_refused hp hr] at h
      cases h
      exact .inr (.inl ⟨hp, r, rfl, rfl⟩)
    | none =>
      rw [request_accepted hp hr] at h
      cases h
      exact .inr (.inr ⟨hp, rfl, rfl⟩)
  · rw [request_busy hp] at h
    cases h
    exact .inl ⟨hp, rfl⟩

/-- A request always has a next state. -/
theorem request_next (reason : State → Option RefuseReason) (accept : State → State) (s : State) :
    ∃ t, request reason accept s = .next t := by
  unfold request
  split
  · split <;> exact ⟨_, rfl⟩
  · exact ⟨_, rfl⟩

/-! ### SEND_COMMAND's tests -/

/-- SEND_COMMAND's tests find nothing exactly when the transport is open, the word well formed and the
parameter in range (R98, R252). -/
theorem checkSend_none_iff {cmd : CmdWord} {p : Param} {s : State} :
    checkSend cmd p s = none ↔
      s.opened = true ∧ CmdWord.WellFormed cmd ∧
        ¬ (cmd = s.cfg.table.word .setFrameRate ∧ paramHi p ≠ 0) := by
  have hrl : ∀ b : Byte, (b = 0 ∨ 3 ≤ b.toNat ∧ b.toNat ≤ Config.replyMax) ↔
      ¬ ((b = 1 ∨ b = 2) ∨ Config.replyMax < b.toNat) := by decide
  unfold checkSend checkWord CmdWord.WellFormed
  rw [hrl]
  cases s.opened <;> simp
  grind

/-- A word in the source's lengths is well formed. -/
theorem wellFormed_of_lengths {w : CmdWord} {c : Cmd}
    (h : cmdRl w = c.lengths.1 ∧ cmdCl w = c.lengths.2) : CmdWord.WellFormed w := by
  unfold CmdWord.WellFormed
  rw [h.1, h.2]
  cases c <;> decide

/-! ### The meanings -/

/-- BEGIN is a request that no reason speaks against (R259). -/
theorem exec_beginOp (p : Param) (c : CmdWord) (s : State) :
    exec (.beginOp p c) s = request (fun _ => none) acceptBegin s := rfl

/-- GET_DATA is a request that needs an open transport (R141). -/
theorem exec_getData (p : Param) (c : CmdWord) (s : State) :
    exec (.getData p c) s = request checkOpen acceptGetData s := rfl

/-- SEND_COMMAND with a generic word (R235). -/
theorem exec_sendGeneric (cmd : CmdWord) (p : Param) (s : State) :
    exec (.sendGeneric cmd p) s = request (checkSend cmd p) (acceptSend cmd p) s := rfl

/-- SEND_COMMAND by name is SEND_COMMAND with the table's word (R99). -/
theorem exec_named (c : Cmd) (p : Param) (s : State) :
    exec (Instr.named c p) s =
      request (checkSend (s.cfg.table.word c) p) (acceptSend (s.cfg.table.word c) p) s := by
  cases c <;> rfl

/-- SEND_COMMAND as the decoder names it, whichever word it carries (R101, R235). -/
theorem exec_ofSend (cmd : CmdWord) (p : Param) (s : State) :
    exec (Instr.ofSend s.cfg.table cmd p) s =
      request (checkSend cmd p) (acceptSend cmd p) s := by
  unfold Instr.ofSend
  split
  · rename_i c h
    rw [exec_named, CmdTable.find?_some h]
  · rfl

/-- The reserved encoding is a request always refused (R252). -/
theorem exec_reservedOp0 (r : BitVec 62) (s : State) :
    exec (.reservedOp0 r) s = request (fun _ => some .noOp) id s := rfl

/-- Everything a request of the opcode table can do. -/
theorem exec_cases {i : Instr} {s t : State} (h : exec i s = .next t) :
    (s.phase ≠ .idle ∧ t = s) ∨
    (s.phase = .idle ∧ ∃ r, t = s.refuse r) ∨
    (s.phase = .idle ∧ (∃ p c, i = .beginOp p c) ∧ t = acceptBegin s) ∨
    (s.phase = .idle ∧ (∃ p c, i = .getData p c) ∧ s.opened = true ∧ t = acceptGetData s) ∨
    (s.phase = .idle ∧ (∀ p c, i ≠ .beginOp p c) ∧ (∀ p c, i ≠ .getData p c) ∧
      (∀ r, i ≠ .reservedOp0 r) ∧
      ∃ cmd p, checkSend cmd p s = none ∧ t = acceptSend cmd p s) := by
  have send : ∀ cmd p, sendCommand cmd p s = .next t →
      (s.phase ≠ .idle ∧ t = s) ∨ (s.phase = .idle ∧ ∃ r, t = s.refuse r) ∨
      (s.phase = .idle ∧ ∃ cmd p, checkSend cmd p s = none ∧ t = acceptSend cmd p s) := by
    intro cmd p h
    rcases request_cases h with h | ⟨hp, r, -, h⟩ | ⟨hp, hr, h⟩
    · exact .inl h
    · exact .inr (.inl ⟨hp, r, h⟩)
    · exact .inr (.inr ⟨hp, cmd, p, hr, h⟩)
  cases i with
  | beginOp p c =>
    rw [exec_beginOp] at h
    rcases request_cases h with h | ⟨hp, r, -, h⟩ | ⟨hp, hr, h⟩
    · exact .inl h
    · exact .inr (.inl ⟨hp, r, h⟩)
    · exact .inr (.inr (.inl ⟨hp, ⟨p, c, rfl⟩, h⟩))
  | getData p c =>
    rw [exec_getData] at h
    rcases request_cases h with h | ⟨hp, r, -, h⟩ | ⟨hp, hr, h⟩
    · exact .inl h
    · exact .inr (.inl ⟨hp, r, h⟩)
    · refine .inr (.inr (.inr (.inl ⟨hp, ⟨p, c, rfl⟩, ?_, h⟩)))
      unfold checkOpen at hr
      split at hr <;> simp_all
  | reservedOp0 r =>
    rw [exec_reservedOp0] at h
    rcases request_cases h with h | ⟨hp, r, -, h⟩ | ⟨hp, hr, h⟩
    · exact .inl h
    · exact .inr (.inl ⟨hp, r, h⟩)
    · cases hr
  | sendGeneric cmd p => simpa using send cmd p h
  | getFirmwareVersion p => simpa using send _ p h
  | triggerDetection p => simpa using send _ p h
  | softReset p => simpa using send _ p h
  | hardReset p => simpa using send _ p h
  | saveSettings p => simpa using send _ p h
  | setFrameRate p => simpa using send _ p h
  | setBaudRate p => simpa using send _ p h
  | standardFormatCm p => simpa using send _ p h
  | standardFormatMm p => simpa using send _ p h
  | pixhawkFormat p => simpa using send _ p h
  | enableOutput p => simpa using send _ p h
  | disableOutput p => simpa using send _ p h
  | setI2cAddress p => simpa using send _ p h
  | setSerialMode p => simpa using send _ p h
  | setI2cMode p => simpa using send _ p h

/-! ### The acceptance steps -/

/-- BEGIN's acceptance, written out (R260). -/
theorem acceptBegin_eq (s : State) :
    acceptBegin s =
      if s.xportOk = true then
        { s with opened := true, tmr := .settle, tmrExp := false, tmrPolls := 0,
                 strobes := { s.strobes with tmrStart := true, tmrSel := .settle },
                 phase := .bgSettle }
      else
        { s with opened := false, begun := true, status := .serialError, ok := false,
                 tmr := .none, phase := .idle, done := true } := by
  cases h : s.xportOk <;>
    simp [acceptBegin, h, State.timerStart, State.completeBegin, State.complete, okOf]

/-- GET_DATA's acceptance, written out (R142). -/
theorem acceptGetData_eq (s : State) :
    acceptGetData s =
      { s with frame := Vector.replicate 9 0,
               rxq := if 9 < s.rxq.length then s.rxq.drop (s.rxq.length - 9) else s.rxq,
               tmr := .deadline, tmrExp := false, tmrPolls := 0, phase := .gdSync,
               strobes := { s.strobes with
                 rxDiscard := if 9 < s.rxq.length then s.rxq.length - 9 else s.strobes.rxDiscard,
                 tmrStart := true, tmrSel := .deadline } } := by
  by_cases h : 9 < s.rxq.length <;>
    simp [acceptGetData, State.rxCount, Config.drainKeep, State.rxDiscardOldest,
      State.timerStart, h]

/-- SEND_COMMAND's acceptance, written out (R196). -/
theorem acceptSend_eq (cmd : CmdWord) (p : Param) (s : State) :
    acceptSend cmd p s =
      if cmdRl cmd = 0 then
        { s with curCmd := cmd, rxq := [], txq := (encodePacket s.cfg.table cmd p).packet,
                 strobes := { s.strobes with
                   rxFlush := true, txFlush := true, txWrite := true,
                   txData := (encodePacket s.cfg.table cmd p).packet },
                 status := .ready, ok := true, tmr := .none, phase := .idle, done := true }
      else
        { s with curCmd := cmd, rxq := [], txq := (encodePacket s.cfg.table cmd p).packet,
                 strobes := { s.strobes with
                   rxFlush := true, txFlush := true, txWrite := true,
                   txData := (encodePacket s.cfg.table cmd p).packet,
                   tmrStart := true, tmrSel := .deadline },
                 reply := Vector.replicate 11 0, rlen := cmdRl cmd, tmr := .deadline,
                 tmrExp := false, tmrPolls := 0, phase := .scSync } := by
  by_cases h : cmdRl cmd = 0 <;>
    simp [acceptSend, encodePacket, h, State.transmit, State.rxFlush, State.txFlush,
      State.txWrite, State.complete, State.timerStart, okOf]

/-! ### The poll iterations -/

/-- The frame window after the shift of a poll iteration (R143). -/
theorem receiveFrameByte_frame (s : State) :
    s.receiveFrameByte.frame =
      match s.rxq with
      | [] => s.frame
      | b :: _ => shiftFrame s.frame b := by
  cases h : s.rxq <;> simp [State.receiveFrameByte, State.rxPop, h]

/-- The reply window after the shift of a poll iteration (R201). -/
theorem receiveReplyByte_reply (s : State) :
    s.receiveReplyByte.reply =
      match s.rxq with
      | [] => s.reply
      | b :: _ => shiftReply s.reply s.rlen.toNat b := by
  cases h : s.rxq <;> simp [State.receiveReplyByte, State.rxPop, h]

/-- Everything a GET_DATA poll iteration can do, on the state after its shift (R144). -/
theorem pollGetData_cases (s : State) :
    let r := s.countPoll.receiveFrameByte
    (headerMatch r.frame = true ∧ frameValid r.frame = true ∧
      pollGetData s =
        r.decodeFrame.complete (override (frameDist r.frame) (frameFlux r.frame))) ∨
    (headerMatch r.frame = true ∧ frameValid r.frame = false ∧
      pollGetData s = r.complete .checksumFailure) ∨
    (headerMatch r.frame = false ∧ s.tmrExp = true ∧
      pollGetData s = r.complete .headerTimeout) ∨
    (headerMatch r.frame = false ∧ s.tmrExp = false ∧ pollGetData s = r) := by
  intro r
  have hx : r.expired = s.tmrExp := by simp [r, State.expired]
  have hp : pollGetData s =
      if headerMatch r.frame = true then
        if frameValid r.frame = true then
          r.decodeFrame.complete (override (frameDist r.frame) (frameFlux r.frame))
        else r.complete .checksumFailure
      else if r.expired = true then r.complete .headerTimeout else r := rfl
  rw [hp, hx]
  cases headerMatch r.frame <;> cases frameValid r.frame <;> cases s.tmrExp <;> simp

/-- Everything a SEND_COMMAND poll iteration can do, on the state after its shift (R202). -/
theorem pollSend_cases (s : State) :
    let r := s.countPoll.receiveReplyByte
    (replyHeader r.reply r.rlen = true ∧ replyValid r.reply r.rlen.toNat = true ∧
      pollSend s = r.postProcess) ∨
    (replyHeader r.reply r.rlen = true ∧ replyValid r.reply r.rlen.toNat = false ∧
      pollSend s = r.complete .checksumFailure) ∨
    (replyHeader r.reply r.rlen = false ∧ s.tmrExp = true ∧
      pollSend s = r.complete .headerTimeout) ∨
    (replyHeader r.reply r.rlen = false ∧ s.tmrExp = false ∧ pollSend s = r) := by
  intro r
  have hx : r.expired = s.tmrExp := by simp [r, State.expired]
  have hp : pollSend s =
      if replyHeader r.reply r.rlen = true then
        if replyValid r.reply r.rlen.toNat = true then r.postProcess
        else r.complete .checksumFailure
      else if r.expired = true then r.complete .headerTimeout else r := rfl
  rw [hp, hx]
  cases replyHeader r.reply r.rlen <;> cases replyValid r.reply r.rlen.toNat <;>
    cases s.tmrExp <;> simp

/-- Everything the post-processing of a valid reply can do (R205). -/
theorem postProcess_cases (s : State) :
    (s.curCmd = s.cfg.table.word .getFirmwareVersion ∧
      s.postProcess =
        { s with ver := #v[s.reply[3], s.reply[4], s.reply[5]] }.complete .ready) ∨
    (s.curCmd ≠ s.cfg.table.word .getFirmwareVersion ∧ s.failureChecked = true ∧
      s.reply[3] = 1 ∧ s.postProcess = s.complete .commandFailed) ∨
    (s.curCmd ≠ s.cfg.table.word .getFirmwareVersion ∧
      ¬ (s.failureChecked = true ∧ s.reply[3] = 1) ∧
      s.postProcess = s.complete .ready) := by
  by_cases hv : s.curCmd = s.cfg.table.word .getFirmwareVersion
  · exact .inl ⟨hv, by simp [State.postProcess, hv]⟩
  · by_cases hf : s.failureChecked = true ∧ s.reply[3] = 1
    · exact .inr (.inl ⟨hv, hf.1, hf.2, by simp [State.postProcess, hv, hf]⟩)
    · exact .inr (.inr ⟨hv, hf, by simp_all [State.postProcess]⟩)

/-- Everything a BEGIN poll iteration can do (R261). -/
theorem pollBegin_cases (s : State) :
    (s.tmrExp = false ∧ pollBegin s = s.countPoll) ∨
    (s.tmrExp = true ∧ s.rxq ≠ [] ∧ pollBegin s = s.countPoll.completeBegin .ready) ∨
    (s.tmrExp = true ∧ s.rxq = [] ∧ pollBegin s = s.countPoll.completeBegin .serialError) := by
  cases he : s.tmrExp <;> cases hq : s.rxq <;>
    simp [pollBegin, State.expired, State.rxCount, he, hq]

/-- The header test, on the two bytes it reads (R145). -/
theorem headerMatch_iff (W : Vector Byte 9) : headerMatch W = true ↔ W[0] = 0x59 ∧ W[1] = 0x59 := by
  simp [headerMatch, Config.frameHdr]

/-- The reply header test, on the two bytes it reads (R209). -/
theorem replyHeader_iff (R : Vector Byte 11) (rl : Byte) :
    replyHeader R rl = true ↔ R[0] = 0x5A ∧ R[1] = rl := by
  simp [replyHeader, Config.cmdHdr]

/-- A GET_DATA poll iteration written out, `W` being the window after its shift (R144). -/
theorem pollGetData_eq (s : State) {W : Vector Byte 9}
    (hW : W = (match s.rxq with | [] => s.frame | b :: _ => shiftFrame s.frame b)) :
    pollGetData s =
      if W[0] = 0x59 ∧ W[1] = 0x59 then
        if frameValid W = true then
          { s with tmrPolls := s.tmrPolls + 1, frame := W, rxq := s.rxq.tail,
                   strobes := s.strobes.pop s.rxq,
                   dist := frameDist W, flux := frameFlux W, temp := tempOf (frameRawTemp W),
                   status := override (frameDist W) (frameFlux W),
                   ok := okOf (override (frameDist W) (frameFlux W)), tmr := .none,
                   phase := .idle, done := true }
        else
          { s with tmrPolls := s.tmrPolls + 1, frame := W, rxq := s.rxq.tail,
                   strobes := s.strobes.pop s.rxq,
                   status := .checksumFailure, ok := false, tmr := .none, phase := .idle,
                   done := true }
      else if s.tmrExp = true then
        { s with tmrPolls := s.tmrPolls + 1, frame := W, rxq := s.rxq.tail,
                 strobes := s.strobes.pop s.rxq,
                 status := .headerTimeout, ok := false, tmr := .none, phase := .idle,
                 done := true }
      else { s with tmrPolls := s.tmrPolls + 1, frame := W, rxq := s.rxq.tail,
                    strobes := s.strobes.pop s.rxq } := by
  have hr : s.countPoll.receiveFrameByte =
      { s with tmrPolls := s.tmrPolls + 1, frame := W, rxq := s.rxq.tail,
               strobes := s.strobes.pop s.rxq } := by
    subst hW
    cases hq : s.rxq <;>
      simp [State.receiveFrameByte, State.rxPop, State.countPoll, Strobes.pop, hq]
  unfold pollGetData
  rw [hr]
  simp only [← headerMatch_iff, State.expired, State.decodeFrame, State.complete]
  rfl

/-- A SEND_COMMAND poll iteration written out, `W` being the window after its shift (R202, R205). -/
theorem pollSend_eq (s : State) {W : Vector Byte 11}
    (hW : W = (match s.rxq with | [] => s.reply | b :: _ => shiftReply s.reply s.rlen.toNat b)) :
    pollSend s =
      let r := { s with tmrPolls := s.tmrPolls + 1, reply := W, rxq := s.rxq.tail,
                        strobes := s.strobes.pop s.rxq }
      if W[0] = 0x5A ∧ W[1] = s.rlen then
        if replyValid W s.rlen.toNat = true then r.postProcess
        else { r with status := .checksumFailure, ok := false, tmr := .none, phase := .idle,
                      done := true }
      else if s.tmrExp = true then
        { r with status := .headerTimeout, ok := false, tmr := .none, phase := .idle,
                 done := true }
      else r := by
  have hr : s.countPoll.receiveReplyByte =
      { s with tmrPolls := s.tmrPolls + 1, reply := W, rxq := s.rxq.tail,
               strobes := s.strobes.pop s.rxq } := by
    subst hW
    cases hq : s.rxq <;>
      simp [State.receiveReplyByte, State.rxPop, State.countPoll, Strobes.pop, hq]
  unfold pollSend
  rw [hr]
  simp only [← replyHeader_iff, State.expired, State.complete]
  rfl

/-- Post-processing written out (R205). -/
theorem postProcess_eq (s : State) :
    s.postProcess =
      if s.curCmd = s.cfg.table.getFirmwareVersion then
        { s with ver := #v[s.reply[3], s.reply[4], s.reply[5]], status := .ready, ok := true,
                 tmr := .none, phase := .idle, done := true }
      else if (s.curCmd = s.cfg.table.softReset ∨ s.curCmd = s.cfg.table.hardReset ∨
          s.curCmd = s.cfg.table.saveSettings) ∧ s.reply[3] = 1 then
        { s with status := .commandFailed, ok := false, tmr := .none, phase := .idle, done := true }
      else { s with status := .ready, ok := true, tmr := .none, phase := .idle, done := true } := by
  have hc : okOf .commandFailed = false := rfl
  have hr : okOf .ready = true := rfl
  simp [State.postProcess, State.failureChecked, State.complete, hc, hr, CmdTable.word, or_assoc]

/-- The core's turn while an operation runs is one poll iteration (R47). -/
theorem coreTurn_busy {s : State} (h : s.phase ≠ .idle) : coreTurn s = .next (poll s) := by
  simp [coreTurn, h]

/-- A scheduled turn, taken from the start of the step. -/
theorem step_of_sched {s : State} {e : Event} {rest : List Event} (h : s.sched = e :: rest) :
    step s = turn e { s with sched := rest, done := false, reqRefused := false, strobes := {} } := by
  rw [step, State.nextEvent_of_sched h, State.startStep_of_sched h]

/-! ### The agents' turns -/

/-- Everything the acceptance step of a request can do on an idle core, with the request it takes
(R251). -/
theorem acceptRequest_cases {s t : State} (hp : s.phase = .idle) (h : acceptRequest s = .next t) :
    (∃ r, t = s.takeRequest.refuse r) ∨
    ((∃ p c, decode s.cfg.table s.reqWord = .ok (.beginOp p c)) ∧ t = acceptBegin s.takeRequest) ∨
    ((∃ p c, decode s.cfg.table s.reqWord = .ok (.getData p c)) ∧ s.opened = true ∧
      t = acceptGetData s.takeRequest) ∨
    (decode s.cfg.table s.reqWord =
        .ok (Instr.ofSend s.cfg.table (reqCmd s.reqWord) (reqParam s.reqWord)) ∧
      checkSend (reqCmd s.reqWord) (reqParam s.reqWord) s.takeRequest = none ∧
      t = acceptSend (reqCmd s.reqWord) (reqParam s.reqWord) s.takeRequest) := by
  have req : ∀ {reason accept}, request reason accept s.takeRequest = .next t →
      (∃ r, t = s.takeRequest.refuse r) ∨
      (reason s.takeRequest = none ∧ t = accept s.takeRequest) := by
    intro reason accept h
    rcases request_cases h with ⟨h1, -⟩ | ⟨-, r, -, h1⟩ | ⟨-, h1, h2⟩
    · exact absurd hp h1
    · exact .inl ⟨r, h1⟩
    · exact .inr ⟨h1, h2⟩
  unfold acceptRequest at h
  split at h
  · cases h
    exact .inl ⟨_, rfl⟩
  · rename_i i hd
    rw [hd]
    unfold decode at hd
    split at hd
    · cases hd
      rw [exec_reservedOp0] at h
      rcases req h with h | ⟨h, -⟩
      · exact .inl h
      · cases h
    · split at hd
      · cases hd
      · split at hd
        · cases hd
          rw [exec_beginOp] at h
          rcases req h with h | ⟨-, h⟩
          · exact .inl h
          · exact .inr (.inl ⟨⟨_, _, rfl⟩, h⟩)
        · split at hd
          · cases hd
            rw [exec_getData] at h
            rcases req h with h | ⟨hr, h⟩
            · exact .inl h
            · refine .inr (.inr (.inl ⟨⟨_, _, rfl⟩, ?_, h⟩))
              cases ho : s.opened <;> simp_all [checkOpen]
          · cases hd
            rw [show s.cfg.table = s.takeRequest.cfg.table from rfl, exec_ofSend] at h
            rcases req h with h | ⟨hr, h⟩
            · exact .inl h
            · exact .inr (.inr (.inr ⟨rfl, hr, h⟩))

/-- Everything the core's turn can do. -/
theorem coreTurn_cases {s t : State} (h : coreTurn s = .next t) :
    (s.phase = .idle ∧ s.reqValid = false ∧ t = s) ∨
    (s.phase = .idle ∧ s.reqValid = true ∧ acceptRequest s = .next t) ∨
    (s.phase = .gdSync ∧ t = pollGetData s) ∨
    (s.phase = .scSync ∧ t = pollSend s) ∨
    (s.phase = .bgSettle ∧ t = pollBegin s) := by
  unfold coreTurn at h
  split at h
  · rename_i hp
    split at h
    · rename_i hv
      exact .inr (.inl ⟨hp, hv, h⟩)
    · rename_i hv
      cases h
      exact .inl ⟨hp, by simpa using hv, rfl⟩
  · cases h
    cases hph : s.phase with
    | idle => exact absurd hph ‹_›
    | gdSync => simp [poll, hph]
    | scSync => simp [poll, hph]
    | bgSettle => simp [poll, hph]

/-- A turn that is no enabled step of its agent changes nothing (R48; log 4). -/
theorem turn_disabled {s : State} {e : Event} (h : s.enabled e = false) : turn e s = .next s := by
  cases e <;> simp_all [State.enabled, turn, coreTurn, txdTurn, timerTurn]

/-- Everything an arrival can do (R40, decision D31). -/
theorem rxTurn_cases (b : Byte) (s : State) :
    (rxTurn b s = .next { s with rxq := s.rxq ++ [b] } ∧
      ∀ cap ∈ s.cfg.rxCap, s.rxq.length < cap) ∨
    (∃ cap ∈ s.cfg.rxCap, cap ≤ s.rxq.length ∧
      ((s.cfg.rxFull = .refuse ∧ rxTurn b s = .refused .rxOverflow) ∨
       (s.cfg.rxFull = .dropNewest ∧ rxTurn b s = .next s) ∨
       (s.cfg.rxFull = .dropOldest ∧
         rxTurn b s = .next { s with rxq := (s.rxq ++ [b]).drop (s.rxq.length + 1 - cap) }))) := by
  cases hc : s.cfg.rxCap with
  | none => exact .inl ⟨by simp [rxTurn, hc], by simp⟩
  | some cap =>
    by_cases hl : s.rxq.length < cap
    · exact .inl ⟨by simp [rxTurn, hc, State.rxCount, hl], by simpa using hl⟩
    · refine .inr ⟨cap, by simp, by omega, ?_⟩
      cases hf : s.cfg.rxFull <;> simp [rxTurn, hc, State.rxCount, hl, hf]

/-- Everything TXD's turn can do (R42). -/
theorem txdTurn_cases (s : State) :
    (s.txq = [] ∧ txdTurn s = s) ∨
    (∃ b q, s.txq = b :: q ∧ txdTurn s = { s with txq := q, wire := s.wire ++ [b] }) := by
  cases h : s.txq <;> simp [txdTurn, h]

/-- The timer may expire exactly as R43 says. -/
theorem timerEnabled_iff (s : State) :
    s.timerEnabled = true ↔
      s.tmr ≠ .none ∧ (s.cfg.deadlineMinPolls ≤ s.tmrPolls ∨ s.tmr = .settle) := by
  simp [State.timerEnabled]

/-- Everything TIMER's turn can do (R43). -/
theorem timerTurn_cases (s : State) :
    (s.timerEnabled = true ∧ timerTurn s = { s with tmrExp := true }) ∨
    (s.timerEnabled = false ∧ timerTurn s = s) := by
  cases h : s.timerEnabled <;> simp [timerTurn, h]

/-- Everything a step can do: the turn of the agent the state names, from the start of the step. -/
theorem step_cases {s t : State} (h : step s = .next t) :
    (s.nextEvent = .core ∧ coreTurn s.startStep = .next t) ∨
    (∃ b, s.nextEvent = .rx b ∧ rxTurn b s.startStep = .next t) ∨
    (s.nextEvent = .txd ∧ t = txdTurn s.startStep) ∨
    (s.nextEvent = .timer ∧ t = timerTurn s.startStep) ∨
    (∃ w, s.nextEvent = .hostRequest w ∧ t = { s.startStep with reqValid := true, reqWord := w }) ∨
    (∃ b, s.nextEvent = .hostXport b ∧ t = { s.startStep with xportOk := b }) ∨
    (∃ idx, s.nextEvent = .hostRead idx ∧ t = { s.startStep with rdIdx := idx }) ∨
    (∃ idx v, s.nextEvent = .hostWrite idx v ∧ t = hostWriteTurn s.startStep) ∨
    (s.nextEvent = .hostReset ∧ t = s.startStep.coreReset) := by
  unfold step turn at h
  cases he : s.nextEvent <;> rw [he] at h <;> simp_all

end Sys2Proof.Machine
end

