-- ==== Sys2Proof/Laws/PerInstr.lean ====
section
/-! SUPPORT. The family EncodedFields: what the encoder puts in the OP and RSV fields of each request
(spec/30_encoding.md R90). -/

namespace Sys2Proof.Laws.EncodedFields

open Sys2Proof.Machine

/-- The OP field R90 gives a request: 1 BEGIN, 2 GET_DATA, 3 SEND_COMMAND, 0 reserved. -/
def opOf : Instr → BitVec 2
  | .beginOp _ _ => 1
  | .getData _ _ => 2
  | .reservedOp0 _ => 0
  | .getFirmwareVersion _ | .triggerDetection _ | .softReset _ | .hardReset _ | .saveSettings _
  | .setFrameRate _ | .setBaudRate _ | .standardFormatCm _ | .standardFormatMm _
  | .pixhawkFormat _ | .enableOutput _ | .disableOutput _ | .setI2cAddress _ | .setSerialMode _
  | .setI2cMode _ | .sendGeneric _ _ => 3

/-- The encoded word has the request's OP, and RSV = 0 unless the encoding is the reserved one. -/
def Statement (i : Instr) : Prop :=
  ∀ t : CmdTable, reqOp (encode t i) = opOf i ∧ (opOf i ≠ 0 → reqRsv (encode t i) = 0)

theorem beginOp (p : Param) (c : CmdWord) : Statement (.beginOp p c) := fun _ => by
  simp [encode, opOf]

theorem getData (p : Param) (c : CmdWord) : Statement (.getData p c) := fun _ => by
  simp [encode, opOf]

theorem getFirmwareVersion (p : Param) : Statement (.getFirmwareVersion p) := fun _ => by
  simp [encode, opOf]

theorem triggerDetection (p : Param) : Statement (.triggerDetection p) := fun _ => by
  simp [encode, opOf]

theorem softReset (p : Param) : Statement (.softReset p) := fun _ => by
  simp [encode, opOf]

theorem hardReset (p : Param) : Statement (.hardReset p) := fun _ => by
  simp [encode, opOf]

theorem saveSettings (p : Param) : Statement (.saveSettings p) := fun _ => by
  simp [encode, opOf]

theorem setFrameRate (p : Param) : Statement (.setFrameRate p) := fun _ => by
  simp [encode, opOf]

theorem setBaudRate (p : Param) : Statement (.setBaudRate p) := fun _ => by
  simp [encode, opOf]

theorem standardFormatCm (p : Param) : Statement (.standardFormatCm p) := fun _ => by
  simp [encode, opOf]

theorem standardFormatMm (p : Param) : Statement (.standardFormatMm p) := fun _ => by
  simp [encode, opOf]

theorem pixhawkFormat (p : Param) : Statement (.pixhawkFormat p) := fun _ => by
  simp [encode, opOf]

theorem enableOutput (p : Param) : Statement (.enableOutput p) := fun _ => by
  simp [encode, opOf]

theorem disableOutput (p : Param) : Statement (.disableOutput p) := fun _ => by
  simp [encode, opOf]

theorem setI2cAddress (p : Param) : Statement (.setI2cAddress p) := fun _ => by
  simp [encode, opOf]

theorem setSerialMode (p : Param) : Statement (.setSerialMode p) := fun _ => by
  simp [encode, opOf]

theorem setI2cMode (p : Param) : Statement (.setI2cMode p) := fun _ => by
  simp [encode, opOf]

theorem sendGeneric (c : CmdWord) (p : Param) : Statement (.sendGeneric c p) := fun _ => by
  simp [encode, opOf]

theorem reservedOp0 (r : BitVec 62) : Statement (.reservedOp0 r) := fun _ => by
  simp [encode, opOf]

end Sys2Proof.Laws.EncodedFields
end

