-- ==== Sys2Proof/Laws/Step.lean ====
section
/-! SUPPORT. Everything a core turn, and everything a step, can do, each outcome as one record: a claim about
every step is a case analysis over these lists, with nothing unfolded. -/

namespace Sys2Proof.Machine

/-- The frame window of a poll iteration after its shift. -/
abbrev State.nextFrame (s : State) : Vector Byte 9 :=
  match s.rxq with
  | [] => s.frame
  | b :: _ => shiftFrame s.frame b

/-- The reply window of a poll iteration after its shift. -/
abbrev State.nextReply (s : State) : Vector Byte 11 :=
  match s.rxq with
  | [] => s.reply
  | b :: _ => shiftReply s.reply s.rlen.toNat b

/-- A core turn in IDLE that accepts a request (R251, R260, R142, R196). -/
theorem accept_outcomes {s t : State} (h : coreTurn s = .next t) (hp : s.phase = .idle)
    (hv : s.reqValid = true) :
    (∃ r, t = { s with reqValid := false, reqRefused := true, refusalMark := some r }) ∨
    (s.xportOk = true ∧ (∃ p c, decode s.cfg.table s.reqWord = .ok (.beginOp p c)) ∧
      t = { s with reqValid := false, opened := true, tmr := .settle, tmrExp := false, tmrPolls := 0,
                   strobes := { s.strobes with tmrStart := true, tmrSel := .settle },
                   phase := .bgSettle }) ∨
    (s.xportOk = false ∧ (∃ p c, decode s.cfg.table s.reqWord = .ok (.beginOp p c)) ∧
      t = { s with reqValid := false, opened := false, begun := true, status := .serialError,
                   ok := false, tmr := .none, phase := .idle, done := true }) ∨
    (s.opened = true ∧ (∃ p c, decode s.cfg.table s.reqWord = .ok (.getData p c)) ∧
      t = { s with reqValid := false, frame := Vector.replicate 9 0,
                   rxq := if 9 < s.rxq.length then s.rxq.drop (s.rxq.length - 9) else s.rxq,
                   tmr := .deadline, tmrExp := false, tmrPolls := 0, phase := .gdSync,
                   strobes := { s.strobes with
                     rxDiscard := if 9 < s.rxq.length then s.rxq.length - 9
                       else s.strobes.rxDiscard,
                     tmrStart := true, tmrSel := .deadline } }) ∨
    (∃ cmd p, cmd = reqCmd s.reqWord ∧ p = reqParam s.reqWord ∧
      decode s.cfg.table s.reqWord = .ok (Instr.ofSend s.cfg.table cmd p) ∧
      s.opened = true ∧ CmdWord.WellFormed cmd ∧ cmdRl cmd = 0 ∧
      t = { s with reqValid := false, curCmd := cmd, rxq := [],
                   txq := (encodePacket s.cfg.table cmd p).packet,
                   strobes := { s.strobes with
                     rxFlush := true, txFlush := true, txWrite := true,
                     txData := (encodePacket s.cfg.table cmd p).packet },
                   status := .ready, ok := true, tmr := .none, phase := .idle, done := true }) ∨
    (∃ cmd p, cmd = reqCmd s.reqWord ∧ p = reqParam s.reqWord ∧
      decode s.cfg.table s.reqWord = .ok (Instr.ofSend s.cfg.table cmd p) ∧
      s.opened = true ∧ CmdWord.WellFormed cmd ∧ cmdRl cmd ≠ 0 ∧
      t = { s with reqValid := false, curCmd := cmd, rxq := [],
                   txq := (encodePacket s.cfg.table cmd p).packet,
                   strobes := { s.strobes with
                     rxFlush := true, txFlush := true, txWrite := true,
                     txData := (encodePacket s.cfg.table cmd p).packet,
                     tmrStart := true, tmrSel := .deadline },
                   reply := Vector.replicate 11 0, rlen := cmdRl cmd, tmr := .deadline,
                   tmrExp := false, tmrPolls := 0, phase := .scSync }) := by
  rcases coreTurn_cases h with ⟨_, hv', -⟩ | ⟨_, _, ha⟩ | ⟨hp', -⟩ | ⟨hp', -⟩ | ⟨hp', -⟩
  · rw [hv] at hv'; cases hv'
  · rcases acceptRequest_cases hp ha with ⟨r, rfl⟩ | ⟨hd, rfl⟩ | ⟨hd, ho, rfl⟩ | ⟨hd, hc, rfl⟩
    · exact .inl ⟨r, rfl⟩
    · rw [acceptBegin_eq]
      cases hx : s.xportOk
      · exact .inr <| .inr <| .inl ⟨rfl, hd, by simp [State.takeRequest, hx]⟩
      · exact .inr <| .inl ⟨rfl, hd, by simp [State.takeRequest, hx]⟩
    · exact .inr <| .inr <| .inr <| .inl ⟨ho, hd, by rw [acceptGetData_eq]; rfl⟩
    · obtain ⟨ho, hw, -⟩ := checkSend_none_iff.1 hc
      rw [acceptSend_eq]
      by_cases h0 : cmdRl (reqCmd s.reqWord) = 0
      · exact .inr <| .inr <| .inr <| .inr <| .inl
          ⟨_, _, rfl, rfl, hd, ho, hw, h0, by rw [if_pos h0]; rfl⟩
      · exact .inr <| .inr <| .inr <| .inr <| .inr
          ⟨_, _, rfl, rfl, hd, ho, hw, h0, by rw [if_neg h0]; rfl⟩
  all_goals rw [hp] at hp'; cases hp'

/-- A poll iteration of GET_DATA (R144). -/
theorem pollGetData_outcomes (s : State) :
    (headerMatch s.nextFrame = true ∧ frameValid s.nextFrame = true ∧
      pollGetData s =
        { s with tmrPolls := s.tmrPolls + 1, frame := s.nextFrame, rxq := s.rxq.tail,
                 strobes := s.strobes.pop s.rxq,
                 dist := frameDist s.nextFrame, flux := frameFlux s.nextFrame,
                 temp := tempOf (frameRawTemp s.nextFrame),
                 status := override (frameDist s.nextFrame) (frameFlux s.nextFrame),
                 ok := okOf (override (frameDist s.nextFrame) (frameFlux s.nextFrame)),
                 tmr := .none, phase := .idle, done := true }) ∨
    (headerMatch s.nextFrame = true ∧ frameValid s.nextFrame = false ∧
      pollGetData s =
        { s with tmrPolls := s.tmrPolls + 1, frame := s.nextFrame, rxq := s.rxq.tail,
                 strobes := s.strobes.pop s.rxq,
                 status := .checksumFailure, ok := false, tmr := .none, phase := .idle,
                 done := true }) ∨
    (headerMatch s.nextFrame = false ∧ s.tmrExp = true ∧
      pollGetData s =
        { s with tmrPolls := s.tmrPolls + 1, frame := s.nextFrame, rxq := s.rxq.tail,
                 strobes := s.strobes.pop s.rxq,
                 status := .headerTimeout, ok := false, tmr := .none, phase := .idle,
                 done := true }) ∨
    (headerMatch s.nextFrame = false ∧ s.tmrExp = false ∧
      pollGetData s =
        { s with tmrPolls := s.tmrPolls + 1, frame := s.nextFrame, rxq := s.rxq.tail,
                 strobes := s.strobes.pop s.rxq }) := by
  rw [pollGetData_eq s (W := s.nextFrame) rfl]
  simp only [← headerMatch_iff]
  cases headerMatch s.nextFrame <;> cases frameValid s.nextFrame <;> cases s.tmrExp <;> simp

/-- A poll iteration of SEND_COMMAND (R202, R205). -/
theorem pollSend_outcomes (s : State) :
    (replyHeader s.nextReply s.rlen = true ∧ replyValid s.nextReply s.rlen.toNat = true ∧
      s.curCmd = s.cfg.table.getFirmwareVersion ∧
      pollSend s =
        { s with tmrPolls := s.tmrPolls + 1, reply := s.nextReply, rxq := s.rxq.tail,
                 strobes := s.strobes.pop s.rxq,
                 ver := #v[s.nextReply[3], s.nextReply[4], s.nextReply[5]], status := .ready,
                 ok := true, tmr := .none, phase := .idle, done := true }) ∨
    (replyHeader s.nextReply s.rlen = true ∧ replyValid s.nextReply s.rlen.toNat = true ∧
      s.curCmd ≠ s.cfg.table.getFirmwareVersion ∧
      (s.curCmd = s.cfg.table.softReset ∨ s.curCmd = s.cfg.table.hardReset ∨
          s.curCmd = s.cfg.table.saveSettings) ∧ s.nextReply[3] = 1 ∧
      pollSend s =
        { s with tmrPolls := s.tmrPolls + 1, reply := s.nextReply, rxq := s.rxq.tail,
                 strobes := s.strobes.pop s.rxq,
                 status := .commandFailed, ok := false, tmr := .none, phase := .idle,
                 done := true }) ∨
    (replyHeader s.nextReply s.rlen = true ∧ replyValid s.nextReply s.rlen.toNat = true ∧
      s.curCmd ≠ s.cfg.table.getFirmwareVersion ∧
      ¬ ((s.curCmd = s.cfg.table.softReset ∨ s.curCmd = s.cfg.table.hardReset ∨
          s.curCmd = s.cfg.table.saveSettings) ∧ s.nextReply[3] = 1) ∧
      pollSend s =
        { s with tmrPolls := s.tmrPolls + 1, reply := s.nextReply, rxq := s.rxq.tail,
                 strobes := s.strobes.pop s.rxq,
                 status := .ready, ok := true, tmr := .none, phase := .idle, done := true }) ∨
    (replyHeader s.nextReply s.rlen = true ∧ replyValid s.nextReply s.rlen.toNat = false ∧
      pollSend s =
        { s with tmrPolls := s.tmrPolls + 1, reply := s.nextReply, rxq := s.rxq.tail,
                 strobes := s.strobes.pop s.rxq,
                 status := .checksumFailure, ok := false, tmr := .none, phase := .idle,
                 done := true }) ∨
    (replyHeader s.nextReply s.rlen = false ∧ s.tmrExp = true ∧
      pollSend s =
        { s with tmrPolls := s.tmrPolls + 1, reply := s.nextReply, rxq := s.rxq.tail,
                 strobes := s.strobes.pop s.rxq,
                 status := .headerTimeout, ok := false, tmr := .none, phase := .idle,
                 done := true }) ∨
    (replyHeader s.nextReply s.rlen = false ∧ s.tmrExp = false ∧
      pollSend s =
        { s with tmrPolls := s.tmrPolls + 1, reply := s.nextReply, rxq := s.rxq.tail,
                 strobes := s.strobes.pop s.rxq }) := by
  rw [pollSend_eq s (W := s.nextReply) rfl]
  simp only [← replyHeader_iff, postProcess_eq]
  cases replyHeader s.nextReply s.rlen
  · cases s.tmrExp <;> simp
  · cases replyValid s.nextReply s.rlen.toNat
    · simp
    · by_cases hf : s.curCmd = s.cfg.table.getFirmwareVersion
      · simp [hf]
      · by_cases hd : (s.curCmd = s.cfg.table.softReset ∨ s.curCmd = s.cfg.table.hardReset ∨
          s.curCmd = s.cfg.table.saveSettings) ∧ s.nextReply[3] = 1
        · refine .inr <| .inl ⟨rfl, rfl, hf, hd.1, hd.2, ?_⟩
          simp only [if_true, if_neg hf, if_pos hd]
        · refine .inr <| .inr <| .inl ⟨rfl, rfl, hf, hd, ?_⟩
          simp only [if_true, if_neg hf, if_neg hd]

/-- A poll iteration of BEGIN (R261). -/
theorem pollBegin_outcomes (s : State) :
    (s.tmrExp = false ∧ pollBegin s = { s with tmrPolls := s.tmrPolls + 1 }) ∨
    (s.tmrExp = true ∧ s.rxq ≠ [] ∧
      pollBegin s =
        { s with tmrPolls := s.tmrPolls + 1, begun := true, status := .ready, ok := true,
                 tmr := .none, phase := .idle, done := true }) ∨
    (s.tmrExp = true ∧ s.rxq = [] ∧
      pollBegin s =
        { s with tmrPolls := s.tmrPolls + 1, begun := true, status := .serialError, ok := false,
                 tmr := .none, phase := .idle, done := true }) := by
  rcases pollBegin_cases s with ⟨h, e⟩ | ⟨h, hq, e⟩ | ⟨h, hq, e⟩
  · exact .inl ⟨h, e⟩
  · exact .inr <| .inl ⟨h, hq, e⟩
  · exact .inr <| .inr ⟨h, hq, e⟩

/-- Everything a step can do to a running operation: the core completes it, a core reset abandons it, or it
runs on with its timer, an expiry staying set and each poll iteration counted (R43, R47, R341). -/
theorem busy_step_cases {s t : State} (h : step s = .next t) (hp : s.phase ≠ .idle) :
    (s.nextEvent = .core ∧ t.phase = .idle ∧ t.tmr = .none ∧ t.done = true) ∨
    (s.nextEvent = .hostReset ∧ t.phase = .idle ∧ t.tmr = .none) ∨
    (s.nextEvent ≠ .hostReset ∧ t.phase = s.phase ∧ t.tmr = s.tmr ∧ t.cfg = s.cfg ∧
      (s.tmrExp = true → t.tmrExp = true) ∧
      (s.nextEvent = .core → s.tmrExp = false ∧ t.tmrPolls = s.tmrPolls + 1) ∧
      (s.nextEvent ≠ .core → t.tmrPolls = s.tmrPolls)) := by
  have h := step_cases h
  rw [← s.startStep_phase] at hp ⊢
  rw [← s.startStep_tmr, ← s.startStep_cfg, ← s.startStep_tmrExp, ← s.startStep_tmrPolls]
  generalize s.startStep = u at h hp
  rcases h with ⟨he, h⟩ | ⟨b, he, h⟩ | ⟨he, rfl⟩ | ⟨he, rfl⟩ | ⟨w, he, rfl⟩ | ⟨b, he, rfl⟩ |
    ⟨b, he, rfl⟩ | ⟨b, v, he, rfl⟩ | ⟨he, rfl⟩
  · rcases coreTurn_cases h with ⟨hi, -⟩ | ⟨hi, -⟩ | ⟨_, rfl⟩ | ⟨_, rfl⟩ | ⟨_, rfl⟩
    · exact absurd hi hp
    · exact absurd hi hp
    · rcases pollGetData_outcomes u with ⟨-, -, e⟩ | ⟨-, -, e⟩ | ⟨-, -, e⟩ | ⟨-, hx, e⟩ <;>
        simp_all
    · rcases pollSend_outcomes u with ⟨-, -, -, e⟩ | ⟨-, -, -, -, -, e⟩ | ⟨-, -, -, -, e⟩ |
        ⟨-, -, e⟩ | ⟨-, -, e⟩ | ⟨-, hx, e⟩ <;> simp_all
    · rcases pollBegin_outcomes u with ⟨hx, e⟩ | ⟨-, -, e⟩ | ⟨-, -, e⟩ <;> simp_all
  · rcases rxTurn_cases b u with ⟨e, -⟩ | ⟨_, -, -, ⟨-, e⟩ | ⟨-, e⟩ | ⟨-, e⟩⟩ <;> rw [e] at h <;>
      cases h <;> simp [he]
  · rcases txdTurn_cases u with ⟨-, e⟩ | ⟨_, _, -, e⟩ <;> simp [e, he]
  · rcases timerTurn_cases u with ⟨-, e⟩ | ⟨-, e⟩ <;> simp [e, he]
  · simp [he]
  · simp [he]
  · simp [he]
  · simp [he, hostWriteTurn]
  · simp [he, State.reset, State.powerOn]

/-- A step of the machine is a step of a run. -/
theorem State.mayStep_of_step {s t : State} (h : step s = .next t) : s.MayStep s.nextEvent t :=
  ⟨s.sched, s.tick, rfl, h⟩

/-- Everything a step of a run can do to a running operation. -/
theorem State.mayStep_busy_cases {s t : State} {e : Event} (h : s.MayStep e t)
    (hp : s.phase ≠ .idle) :
    (e = .core ∧ t.phase = .idle ∧ t.tmr = .none ∧ t.done = true) ∨
    (e = .hostReset ∧ t.phase = .idle ∧ t.tmr = .none) ∨
    (e ≠ .hostReset ∧ t.phase = s.phase ∧ t.tmr = s.tmr ∧ t.cfg = s.cfg ∧
      (s.tmrExp = true → t.tmrExp = true) ∧
      (e = .core → s.tmrExp = false ∧ t.tmrPolls = s.tmrPolls + 1) ∧
      (e ≠ .core → t.tmrPolls = s.tmrPolls)) := by
  obtain ⟨sched, tick, rfl, h⟩ := h
  exact busy_step_cases h hp

end Sys2Proof.Machine
end

