-- ==== Sys2Proof/Tests/Slice0.lean ====
section
/-! SUPPORT. Tests: the well-formedness checks refuse what they should, words and results written out from
the spec (its vectors are named V-...), and for every obligation with hypotheses a state and operands that
meet them. Expected values come from spec/95_test_vectors.md or from the rules, never from the model. -/

namespace Sys2Proof.Tests

open Sys2Proof Sys2Proof.Machine

/-! ## Helpers -/

/-- The next state of an outcome. -/
def next? : Host.Outcome State Fault Refusal → Option State
  | .next t => some t
  | .fault _ | .refused _ => none

/-- The end state of V-B1 with an empty input, the core's turn next. -/
def ready : State :=
  { State.reset with opened := true, begun := true, ok := true, xportOk := true, sched := [.core] }

/-- `ready` with a request at the port. -/
def asking (w : ReqWord) : State := { ready with reqValid := true, reqWord := w }

/-- `ready` searching for a frame, with a window and waiting bytes. -/
def searching (W : Vector Byte 9) (q : List Byte) : State :=
  { ready with phase := .gdSync, tmr := .deadline, frame := W, rxq := q }

/-- `ready` awaiting the reply to a word, with a window and waiting bytes. -/
def awaiting (cmd : CmdWord) (R : Vector Byte 11) (q : List Byte) : State :=
  { ready with phase := .scSync, tmr := .deadline, curCmd := cmd, rlen := cmdRl cmd, reply := R,
               rxq := q }

/-- What the last poll of a search reports on a frame: STATUS, OK, DIST, FLUX, TEMP. -/
def frameOutcome (F : Vector Byte 9) : Option (Status × Bool × Int × Int × Int) :=
  (next? (step (searching #v[0, F[0], F[1], F[2], F[3], F[4], F[5], F[6], F[7]] [F[8]]))).map fun t =>
    (t.status, t.ok, t.dist.toInt, t.flux.toInt, t.temp.toInt)

/-- What the last poll reports on a reply, whose last byte comes separately: STATUS, OK, VER. -/
def replyOutcome (cmd : CmdWord) (first : Vector Byte 11) (last : Byte) :
    Option (Status × Bool × Vector Byte 3) :=
  (next? (step (awaiting cmd first [last]))).map fun t => (t.status, t.ok, t.ver)

/-- The mark and the phase after the core's turn on a word at the port. -/
def portOutcome (isOpen : Bool) (w : ReqWord) : Option (Option RefuseReason × Phase) :=
  (next? (step { asking w with opened := isOpen })).map fun t => (t.refusalMark, t.phase)

/-- The settle delay of a first BEGIN. -/
def settling (expired : Bool) (q : List Byte) : State :=
  { State.reset with opened := true, xportOk := true, phase := .bgSettle, tmr := .settle,
                     tmrExp := expired, rxq := q, sched := [.core] }

/-! ## Well-formedness: one ill-formed term for each check (R8, R98, R103, R235) -/

theorem test_wf_accepts :
    CmdTable.Valid Config.defaultTable ∧ CmdTable.SourceLengths Config.defaultTable ∧
      CmdWord.WellFormed 0x00000300 ∧ CmdWord.WellFormed 0x0000080B ∧ CmdWord.WellFormed 0x00000403 := by
  decide

/-- CL = 2. -/
theorem test_wf_cl_low :
    ¬ CmdWord.WellFormed 0x00000200 := by decide

/-- CL = 9. -/
theorem test_wf_cl_high :
    ¬ CmdWord.WellFormed 0x00000900 := by decide

/-- RL = 1. -/
theorem test_wf_rl_one :
    ¬ CmdWord.WellFormed 0x00000401 := by decide

/-- RL = 2. -/
theorem test_wf_rl_two :
    ¬ CmdWord.WellFormed 0x00000402 := by decide

/-- RL = 12, above REPLY_MAX. -/
theorem test_wf_rl_high :
    ¬ CmdWord.WellFormed 0x0000040C := by decide

/-- A frame rate of three bytes. -/
theorem test_wf_rate :
    ¬ Instr.WellFormed Config.defaultTable (.setFrameRate 0x010000) ∧
      Instr.WellFormed Config.defaultTable (.setFrameRate 0x00FFFF) := by decide

/-- A generic word equal to a table word, and one with CL = 2. -/
theorem test_wf_generic :
    ¬ Instr.WellFormed Config.defaultTable (.sendGeneric 0x00010407 0) ∧
      ¬ Instr.Encodable Config.defaultTable (.sendGeneric 0x00010407 0) ∧
      ¬ Instr.WellFormed Config.defaultTable (.sendGeneric 0x00000200 0) := by decide

/-- The reserved operation. -/
theorem test_wf_reserved :
    ¬ Instr.WellFormed Config.defaultTable (.reservedOp0 0) := by decide

/-- A repeated word, a reset whose reply has no byte 3, CL = 9, a version reply of 5 bytes, another length. -/
theorem test_wf_table :
    ¬ CmdTable.Valid { softReset := 0x00010407 } ∧ ¬ CmdTable.Valid { softReset := 0x00020400 } ∧
      ¬ CmdTable.Valid { enableOutput := 0x01070905 } ∧
      ¬ CmdTable.Valid { getFirmwareVersion := 0x00010405 } ∧
      ¬ CmdTable.SourceLengths { setI2cAddress := 0x100B0505 } := by decide

/-! ## Decoding: a word written out from R90, R99 for every constructor (V-E4, V-R1, V-R15) -/

theorem test_decode_beginOp :
    decodeTableWord 64 0x0000000000000001 = some (.beginOp 0 0) := by decide

theorem test_decode_getData :
    decodeTableWord 64 0xFFFFFFFF00000002 = some (.getData 0 0xFFFFFFFF) := by decide

theorem test_decode_getFirmwareVersion :
    decodeTableWord 64 0x0001040700000003 = some (.getFirmwareVersion 0) ∧
      encode Config.defaultTable (.getFirmwareVersion 0) = 0x0001040700000003 := by decide

theorem test_decode_triggerDetection :
    decodeTableWord 64 0x0004040000000003 = some (.triggerDetection 0) ∧
      encode Config.defaultTable (.triggerDetection 0) = 0x0004040000000003 := by decide

theorem test_decode_softReset :
    decodeTableWord 64 0x0002040500000003 = some (.softReset 0) ∧
      encode Config.defaultTable (.softReset 0) = 0x0002040500000003 := by decide

theorem test_decode_hardReset :
    decodeTableWord 64 0x0010040500000003 = some (.hardReset 0) ∧
      encode Config.defaultTable (.hardReset 0) = 0x0010040500000003 := by decide

theorem test_decode_saveSettings :
    decodeTableWord 64 0x0011040500000003 = some (.saveSettings 0) ∧
      encode Config.defaultTable (.saveSettings 0) = 0x0011040500000003 := by decide

theorem test_decode_setFrameRate :
    decodeTableWord 64 0x0003060600000003 = some (.setFrameRate 0) ∧
      encode Config.defaultTable (.setFrameRate 0) = 0x0003060600000003 := by decide

theorem test_decode_setBaudRate :
    decodeTableWord 64 0x0006080800000003 = some (.setBaudRate 0) ∧
      encode Config.defaultTable (.setBaudRate 0) = 0x0006080800000003 := by decide

theorem test_decode_standardFormatCm :
    decodeTableWord 64 0x0105050500000003 = some (.standardFormatCm 0) ∧
      encode Config.defaultTable (.standardFormatCm 0) = 0x0105050500000003 := by decide

theorem test_decode_standardFormatMm :
    decodeTableWord 64 0x0605050500000003 = some (.standardFormatMm 0) ∧
      encode Config.defaultTable (.standardFormatMm 0) = 0x0605050500000003 := by decide

theorem test_decode_pixhawkFormat :
    decodeTableWord 64 0x0205050500000003 = some (.pixhawkFormat 0) ∧
      encode Config.defaultTable (.pixhawkFormat 0) = 0x0205050500000003 := by decide

theorem test_decode_enableOutput :
    decodeTableWord 64 0x0107050500000003 = some (.enableOutput 0) ∧
      encode Config.defaultTable (.enableOutput 0) = 0x0107050500000003 := by decide

theorem test_decode_disableOutput :
    decodeTableWord 64 0x0007050500000003 = some (.disableOutput 0) ∧
      encode Config.defaultTable (.disableOutput 0) = 0x0007050500000003 := by decide

theorem test_decode_setI2cAddress :
    decodeTableWord 64 0x100B050B00000003 = some (.setI2cAddress 0) ∧
      encode Config.defaultTable (.setI2cAddress 0) = 0x100B050B00000003 := by decide

theorem test_decode_setSerialMode :
    decodeTableWord 64 0x000A050A00000003 = some (.setSerialMode 0) ∧
      encode Config.defaultTable (.setSerialMode 0) = 0x000A050A00000003 := by decide

theorem test_decode_setI2cMode :
    decodeTableWord 64 0x010A050A00000003 = some (.setI2cMode 0) ∧
      encode Config.defaultTable (.setI2cMode 0) = 0x010A050A00000003 := by decide

theorem test_decode_sendGeneric :
    decodeTableWord 64 0x0000050312345603 = some (.sendGeneric 0x00000503 0x123456) ∧
      encode Config.defaultTable (.sendGeneric 0x00000503 0x123456) = 0x0000050312345603 := by decide

/-- OP = 0 is tested before RSV (R252). -/
theorem test_decode_reservedOp0 :
    decodeTableWord 64 0xFFFFFFFFFFFFFFFC = some (.reservedOp0 0x3FFFFFFFFFFFFFFF) ∧
      decodeTableWord 2 0 = some (.reservedOp0 0) := by decide

/-- V-R14, V-R2. -/
theorem test_decode_rsv :
    decodeTableWord 64 0x00000000000000FE = none ∧ decodeTableWord 64 5 = none := by decide

/-! ## Acceptance: the packet each named command sends (V-E1, V-E2, V-E4, V-E5) -/

theorem test_run_getFirmwareVersion :
    (next? (exec (.getFirmwareVersion 0) ready)).map (fun t => (t.txq, t.phase, t.rlen)) =
      some ([0x5A, 0x04, 0x01, 0x5F], .scSync, 7) := by decide

theorem test_run_triggerDetection :
    (next? (exec (.triggerDetection 0) ready)).map (fun t => (t.txq, t.phase, t.status, t.ok, t.done)) =
      some ([0x5A, 0x04, 0x04, 0x62], .idle, .ready, true, true) := by decide

theorem test_run_softReset :
    (next? (exec (.softReset 0) ready)).map (fun t => (t.txq, t.phase, t.rlen)) =
      some ([0x5A, 0x04, 0x02, 0x60], .scSync, 5) := by decide

theorem test_run_hardReset :
    (next? (exec (.hardReset 0) ready)).map (fun t => (t.txq, t.phase, t.rlen)) =
      some ([0x5A, 0x04, 0x10, 0x6E], .scSync, 5) := by decide

theorem test_run_saveSettings :
    (next? (exec (.saveSettings 0) ready)).map (fun t => (t.txq, t.phase, t.rlen)) =
      some ([0x5A, 0x04, 0x11, 0x6F], .scSync, 5) := by decide

theorem test_run_setFrameRate :
    (next? (exec (.setFrameRate 0) ready)).map (fun t => (t.txq, t.phase, t.rlen)) =
      some ([0x5A, 0x06, 0x03, 0, 0, 0x63], .scSync, 6) := by decide

theorem test_run_setBaudRate :
    (next? (exec (.setBaudRate 0) ready)).map (fun t => (t.txq, t.phase, t.rlen)) =
      some ([0x5A, 0x08, 0x06, 0, 0, 0, 0, 0x68], .scSync, 8) := by decide

theorem test_run_standardFormatCm :
    (next? (exec (.standardFormatCm 0) ready)).map (fun t => (t.txq, t.phase, t.rlen)) =
      some ([0x5A, 0x05, 0x05, 0x01, 0x65], .scSync, 5) := by decide

theorem test_run_standardFormatMm :
    (next? (exec (.standardFormatMm 0) ready)).map (fun t => (t.txq, t.phase, t.rlen)) =
      some ([0x5A, 0x05, 0x05, 0x06, 0x6A], .scSync, 5) := by decide

theorem test_run_pixhawkFormat :
    (next? (exec (.pixhawkFormat 0) ready)).map (fun t => (t.txq, t.phase, t.rlen)) =
      some ([0x5A, 0x05, 0x05, 0x02, 0x66], .scSync, 5) := by decide

theorem test_run_enableOutput :
    (next? (exec (.enableOutput 0) ready)).map (fun t => (t.txq, t.phase, t.rlen)) =
      some ([0x5A, 0x05, 0x07, 0x01, 0x67], .scSync, 5) := by decide

theorem test_run_disableOutput :
    (next? (exec (.disableOutput 0) ready)).map (fun t => (t.txq, t.phase, t.rlen)) =
      some ([0x5A, 0x05, 0x07, 0, 0x66], .scSync, 5) := by decide

theorem test_run_setI2cAddress :
    (next? (exec (.setI2cAddress 0) ready)).map (fun t => (t.txq, t.phase, t.rlen)) =
      some ([0x5A, 0x05, 0x0B, 0x10, 0x7A], .scSync, 11) := by decide

theorem test_run_setSerialMode :
    (next? (exec (.setSerialMode 0) ready)).map (fun t => (t.txq, t.phase, t.rlen)) =
      some ([0x5A, 0x05, 0x0A, 0, 0x69], .scSync, 10) := by decide

theorem test_run_setI2cMode :
    (next? (exec (.setI2cMode 0) ready)).map (fun t => (t.txq, t.phase, t.rlen)) =
      some ([0x5A, 0x05, 0x0A, 0x01, 0x6A], .scSync, 10) := by decide

/-- V-E1, V-R9. -/
theorem test_rate_packets :
    (next? (exec (.setFrameRate 1000) ready)).map (·.txq) = some [0x5A, 0x06, 0x03, 0xE8, 0x03, 0x4E] ∧
      (next? (exec (.setFrameRate 65535) ready)).map (·.txq) = some [0x5A, 0x06, 0x03, 0xFF, 0xFF, 0x61] ∧
      (next? (exec (.setFrameRate 65536) ready)).map (·.refusalMark) = some (some .paramRange) := by
  decide

/-- V-E2. -/
theorem test_baud_packets :
    (next? (exec (.setBaudRate 921600) ready)).map (·.txq) =
        some [0x5A, 0x08, 0x06, 0, 0x10, 0x0E, 0, 0x86] ∧
      (next? (exec (.setBaudRate 16777215) ready)).map (·.txq) =
        some [0x5A, 0x08, 0x06, 0xFF, 0xFF, 0xFF, 0, 0x65] := by decide

/-- V-E5. -/
theorem test_param_ignored :
    (next? (exec (.getFirmwareVersion 0x123456) ready)).map (·.txq) = some [0x5A, 0x04, 0x01, 0x5F] := by
  decide

/-- V-E3. -/
theorem test_generic_packets :
    (next? (exec (.sendGeneric 0xAABB0800 0) ready)).map (fun t => (t.txq, t.done)) =
        some ([0x5A, 0x08, 0xBB, 0xAA, 0, 0, 0, 0xC7], true) ∧
      (next? (exec (.sendGeneric 0x11220505 0) ready)).map (fun t => (t.txq, t.done)) =
        some ([0x5A, 0x05, 0x22, 0x11, 0x92], false) := by decide

/-- V-C16, and both buffers are flushed (R197). -/
theorem test_generic_three_bytes :
    (next? (exec (.sendGeneric 0x00000300 0) { ready with txq := [1, 2], rxq := [3] })).map
        (fun t => (t.txq, t.rxq, t.status, t.ok, t.rlen)) =
      some ([0x5A, 0x03, 0x5D], [], .ready, true, 0) := by decide

/-! ## BEGIN (V-B1 to V-B5) -/

/-- V-B4. -/
theorem test_begin_closed :
    (next? (exec (.beginOp 0 0) { ready with xportOk := false, rxq := [0x59] })).map
        (fun t => (t.status, t.ok, t.opened, t.readByte 0x01, t.rxq)) =
      some (.serialError, false, false, 0x88, [0x59]) := by decide

/-- V-B1. -/
theorem test_begin_alive :
    (next? (step (settling true [0x59]))).map
        (fun t => (t.status, t.ok, t.readByte 0x01, t.rxq, t.tmrPolls)) =
      some (.ready, true, 0x4D, [0x59], 1) := by decide

/-- V-B2. -/
theorem test_begin_silent :
    (next? (step (settling true []))).map (fun t => (t.status, t.ok, t.readByte 0x01)) =
      some (.serialError, false, 0x8C) := by decide

/-! ## GET_DATA (V-F): the poll iteration that completes -/

/-- V-F2, V-F7 to V-F10. -/
theorem test_frame_overrides :
    frameOutcome #v[0x59, 0x59, 0xFF, 0xFF, 0xF4, 0x01, 0, 0x08, 0xAD] =
        some (.weakSignal, false, -1, 500, 0) ∧
      frameOutcome #v[0x59, 0x59, 0x64, 0, 0xFF, 0xFF, 0, 0x08, 0x1C] =
        some (.strongSignal, false, 100, -1, 0) ∧
      frameOutcome #v[0x59, 0x59, 0xFC, 0xFF, 0, 0, 0, 0x08, 0xB5] =
        some (.floodSignal, false, -4, 0, 0) ∧
      frameOutcome #v[0x59, 0x59, 0xFF, 0xFF, 0xFF, 0xFF, 0, 0x08, 0xB6] =
        some (.weakSignal, false, -1, -1, 0) ∧
      frameOutcome #v[0x59, 0x59, 0xFC, 0xFF, 0xFF, 0xFF, 0, 0x08, 0xB3] =
        some (.strongSignal, false, -4, -1, 0) := 
    ⟨by decide, by decide, by decide, by decide, by decide⟩

/-- V-F1, V-F3, V-F11, V-F12. -/
theorem test_frame_values :
    frameOutcome #v[0x59, 0x59, 0x64, 0, 0xF4, 0x01, 0, 0x08, 0x13] =
        some (.ready, true, 100, 500, 0) ∧
      frameOutcome #v[0x59, 0x59, 0x64, 0, 0xF4, 0x01, 0, 0x08, 0x14] =
        some (.checksumFailure, false, 0, 0, 0) ∧
      frameOutcome #v[0x59, 0x59, 0, 0x80, 0xFF, 0x7F, 0, 0x08, 0xB8] =
        some (.ready, true, -32768, 32767, 0) ∧
      frameOutcome #v[0x59, 0x59, 0x64, 0, 0xF4, 0x01, 0x07, 0, 0x12] =
        some (.ready, true, 100, 500, -256) ∧
      frameOutcome #v[0x59, 0x59, 0x64, 0, 0xF4, 0x01, 0xFF, 0xFF, 0x09] =
        some (.ready, true, 100, 500, 7935) := 
    ⟨by decide, by decide, by decide, by decide, by decide⟩

/-- V-F14: the drain keeps the newest nine bytes. -/
theorem test_drain :
    (next? (exec (.getData 0 0)
        { ready with rxq := [0x59, 0x59, 0x64, 0, 0xF4, 0x01, 0, 0x08, 0x13, 0x01, 0x02, 0x03] })).map (·.rxq) =
      some [0, 0xF4, 0x01, 0, 0x08, 0x13, 0x01, 0x02, 0x03] := by decide

/-- V-F18: the deadline ends a search with a frame still arriving. -/
theorem test_deadline_drops :
    (next? (step { searching #v[0, 0, 0, 0, 0, 0, 0, 0, 0x59] [0x59, 0x64] with
        tmrExp := true })).map
        (fun t => (t.status, t.frame, t.rxq)) =
      some (.headerTimeout, #v[0, 0, 0, 0, 0, 0, 0, 0x59, 0x59], [0x64]) := by decide

/-! ## SEND_COMMAND (V-C): the poll iteration that completes -/

/-- V-C1, V-C1b. -/
theorem test_reply_version :
    replyOutcome 0x00010407 #v[0, 0x5A, 0x07, 0x01, 0x03, 0x05, 0x07, 0, 0, 0, 0] 0x71 =
        some (.ready, true, #v[0x03, 0x05, 0x07]) ∧
      replyOutcome 0x00010407 #v[0, 0x5A, 0x07, 0x01, 0x03, 0x05, 0x07, 0, 0, 0, 0] 0x70 =
        some (.checksumFailure, false, #v[0, 0, 0]) := by decide

/-- V-C3a, V-C3c, V-C3d, V-C3e, and V-C7, which has no failure check. -/
theorem test_reply_device_failure :
    replyOutcome 0x00020405 #v[0, 0x5A, 0x05, 0x02, 0x01, 0, 0, 0, 0, 0, 0] 0x62 =
        some (.commandFailed, false, #v[0, 0, 0]) ∧
      replyOutcome 0x00020405 #v[0, 0x5A, 0x05, 0x02, 0x02, 0, 0, 0, 0, 0, 0] 0x63 =
        some (.ready, true, #v[0, 0, 0]) ∧
      replyOutcome 0x00100405 #v[0, 0x5A, 0x05, 0x10, 0, 0, 0, 0, 0, 0, 0] 0x6F =
        some (.ready, true, #v[0, 0, 0]) ∧
      replyOutcome 0x00110405 #v[0, 0x5A, 0x05, 0x11, 0x01, 0, 0, 0, 0, 0, 0] 0x71 =
        some (.commandFailed, false, #v[0, 0, 0]) ∧
      replyOutcome 0x01070505 #v[0, 0x5A, 0x05, 0x07, 0x01, 0, 0, 0, 0, 0, 0] 0x67 =
        some (.ready, true, #v[0, 0, 0]) := by decide

/-- V-C10: a length byte of 6 is never matched. -/
theorem test_reply_longer :
    (next? (step { awaiting 0x01050505 #v[0x06, 0x05, 0x01, 0, 0x66, 0, 0, 0, 0, 0, 0] [] with
        tmrExp := true })).map
        (fun t => (t.status, t.reply)) =
      some (.headerTimeout, #v[0x06, 0x05, 0x01, 0, 0x66, 0, 0, 0, 0, 0, 0]) := by decide

/-- R201: the bytes beyond the window are not touched. -/
theorem test_reply_window_stays_inside :
    (next? (step (awaiting 0x01050505 #v[0x01, 0x02, 0x03, 0x04, 0x05, 0, 0, 0, 0, 0, 0] [0x5A]))).map (·.reply) =
      some #v[0x02, 0x03, 0x04, 0x05, 0x5A, 0, 0, 0, 0, 0, 0] := by decide

/-! ## Refusals (V-R, P5) -/

/-- V-R1 to V-R9, V-R14. -/
theorem test_refusals :
    portOutcome true 0x0000000000000000 = some (some .noOp, .idle) ∧
      portOutcome true 0x0000000000000005 = some (some .rsvBits, .idle) ∧
      portOutcome false 0x0000000000000002 = some (some .notOpen, .idle) ∧
      portOutcome false 0x0000000000000003 = some (some .notOpen, .idle) ∧
      portOutcome true 0x0000020000000003 = some (some .cmdLen, .idle) ∧
      portOutcome true 0x0000090000000003 = some (some .cmdLen, .idle) ∧
      portOutcome true 0x0000040100000003 = some (some .replyLen, .idle) ∧
      portOutcome true 0x0000040C00000003 = some (some .replyLen, .idle) ∧
      portOutcome true 0x0003060601000003 = some (some .paramRange, .idle) ∧
      portOutcome true 0x00000000000000FE = some (some .rsvBits, .idle) := by decide

/-- V-R10 to V-R13, V-R15. -/
theorem test_acceptances :
    portOutcome true 0x00060808FFFFFF03 = some (none, .scSync) ∧
      portOutcome true 0x0000080B00000003 = some (none, .scSync) ∧
      portOutcome true 0x0000040300000003 = some (none, .scSync) ∧
      portOutcome false 0x0000000000000001 = some (none, .bgSettle) ∧
      portOutcome true 0xFFFFFFFF00000002 = some (none, .gdSync) := by decide

/-- The first request after reset: BEGIN runs, a command is refused (R252, P5). -/
theorem test_word_from_reset :
    (next? (step (State.reset.withFetchWord 64 0x0000000000000001))).map (fun t => (t.status, t.done)) =
        some (.serialError, true) ∧
      (next? (step (State.reset.withFetchWord 64 0x0001040700000003))).map (·.refusalMark) =
        some (some .notOpen) := by decide

/-! ## The read view, the checksum and the script syntax -/

/-- V-M1. -/
theorem test_view_reset :
    State.reset.memRead 0 21 = some (List.replicate 21 0) := by decide

/-- V-M2. -/
theorem test_view_frame :
    ({ ready with
          dist := 100, flux := 500,
          frame := #v[0x59, 0x59, 0x64, 0, 0xF4, 0x01, 0, 0x08, 0x13] } : State).memRead 0 21 =
      some [0, 0x4D, 0x64, 0, 0xF4, 0x01, 0, 0, 0x59, 0x59, 0x64, 0, 0xF4, 0x01, 0, 0x08, 0x13, 0, 0, 0, 0] := by
  decide

/-- V-M4, V-M5. -/
theorem test_view_weak :
    ({ ready with status := .weakSignal, ok := false, dist := -1, flux := 500 } : State).memRead 0 8 =
        some [0x06, 0x8C, 0xFF, 0xFF, 0xF4, 0x01, 0, 0] ∧
      (searching (Vector.replicate 9 0) []).readByte 1 = 0x5F := by decide

/-- V-M3. -/
theorem test_view_reply :
    ({ ready with
          rlen := 7, ver := #v[0x03, 0x05, 0x07],
          reply := #v[0x5A, 0x07, 0x01, 0x03, 0x05, 0x07, 0x71, 0, 0, 0, 0] } : State).memRead 0x10 27 =
      some ([0, 0x07, 0x03, 0x05, 0x07] ++ List.replicate 11 0 ++ [0x5A, 0x07, 0x01, 0x03, 0x05, 0x07, 0x71, 0, 0, 0, 0]) := by
  decide

/-- R76, decision D26. -/
theorem test_view_write_has_no_effect :
    (next? (step { ready with sched := [.hostWrite 0 7] })).map
        (fun t => (t.status, t.refusalMark, t.reqRefused)) =
      some (.ready, some .readViewWrite, false) := by decide

/-- V-K1. -/
theorem test_sum8 :
    sum8 [] = 0 ∧ sum8 [0xFF, 0x01] = 0 ∧ sum8 [0xFF, 0xFF, 0xFF, 0xFF, 0xFF, 0xFF, 0xFF, 0xFF] = 0xF8 ∧
      sum8 [0x5A, 0x08, 0x06, 0, 0x10, 0x0E, 0] = 0x86 := by decide

/-- V-K2. -/
theorem test_reply_valid :
    replyValid #v[0x5A, 0x03, 0x5D, 0, 0, 0, 0, 0, 0, 0, 0] 3 = true ∧
      replyValid #v[0x5A, 0x03, 0x5C, 0, 0, 0, 0, 0, 0, 0, 0] 3 = false := by decide

/-- L1-3 and V-C14. -/
theorem test_script_lines :
    (parseLine "SENDCMD SET_FRAME_RATE, 100 ; a comment").bind (assemble Config.defaultTable) =
        some 0x0003060600006403 ∧
      (parseLine "SENDCMD #0x00000503, 0x123456").bind (assemble Config.defaultTable) =
        some 0x0000050312345603 := by decide

/-- P4, V-C5, P3. -/
theorem test_script_pseudo :
    (parseLine "GETVERSION").bind (assemble Config.defaultTable) = some 0x0001040700000003 ∧
      (parseLine "SETBAUD 115200").bind (assemble Config.defaultTable) = some 0x0006080801C20003 ∧
      parseLine "RETRY GETDATA" = some (.retry .getDataLine) := by decide

/-- BEGIN, and then GETDATA, presented and run, the transport not open. -/
def scripted (turns : List Event) : State :=
  { State.reset with sched := .hostRequest 1 :: .core :: turns }

/-- V-B3 as a run, a run too short, another script, and a RETRY that needs two completions (R105, R265). -/
theorem test_observe_end :
    (observe 2 [.beginLine] (scripted [])).map (·.completions) = some [⟨.serialError, false⟩] ∧
      observe 1 [.beginLine] (scripted []) = none ∧ observe 2 [.getDataLine] (scripted []) = none ∧
      (observe 4 [.retry .beginLine] (scripted
        [.hostXport true, .hostRequest 1, .core, .timer, .rx 0x59, .core])).isSome = false ∧
      (observe 8 [.retry .beginLine] (scripted
        [.hostXport true, .hostRequest 1, .core, .timer, .rx 0x59, .core])).map (·.completions) =
        some [⟨.serialError, false⟩, ⟨.ready, true⟩] := 
    ⟨by decide, by decide, by decide, by decide, by decide⟩

/-- A refused request, one before a core reset, an abandoned operation, a host write (R265). -/
theorem test_observe_no_end :
    observe 9 [.beginLine, .getDataLine] (scripted [.hostRequest 2, .core]) = none ∧
      observe 9 [.beginLine] { scripted [] with sched := [.hostRequest 0, .core, .hostReset, .hostRequest 1, .core] } = none ∧
      observe 9 [.beginLine] { scripted [] with
        xportOk := true, sched := [.hostRequest 1, .core, .hostReset] } = none ∧
      observe 9 [.beginLine] { scripted [] with
        sched := [.hostWrite 0 7, .hostRequest 1, .core] } = none := 
    ⟨by decide, by decide, by decide, by decide⟩

/-! ## The output strobes (R46) -/

/-- R142 with the bytes of V-F14, R199, R260, R253. -/
theorem test_strobes_accept :
    (next? (exec (.getData 0 0) { ready with rxq := List.replicate 12 0 })).map (·.strobes) =
        some { rxDiscard := 3, tmrStart := true, tmrSel := .deadline } ∧
      (next? (exec (.triggerDetection 0) ready)).map (·.strobes) =
        some { rxFlush := true, txFlush := true, txWrite := true, txData := [0x5A, 0x04, 0x04, 0x62] } ∧
      (next? (exec (.beginOp 0 0) ready)).map (·.strobes) =
        some { tmrStart := true, tmrSel := .settle } ∧
      (next? (exec (.reservedOp0 0) ready)).map (·.strobes) = some {} := by decide

/-- R144, R261. -/
theorem test_strobes_poll :
    (next? (step (searching (Vector.replicate 9 0) [7]))).map (·.strobes) = some { rxPop := true } ∧
      (next? (step (searching (Vector.replicate 9 0) []))).map (·.strobes) = some {} ∧
      (next? (step (settling true [0x59]))).map (·.strobes) = some {} := by decide

/-! ## Witnesses: for every obligation with hypotheses, a state and operands that meet them all -/

/-- Also of CoreResetKeepsTransport. -/
theorem test_witness_PowerOnAndResetState :
    ({ searching (Vector.replicate 9 0) [1] with sched := [.hostReset] } : State).sched =
      .hostReset :: [] := rfl

theorem test_witness_StepIsTheAgentsTurn :
    ready.sched = .core :: [] := rfl

theorem test_witness_Sum8IsSumMod256 :
    3 < 4 ∧ [(1 : Byte), 2].Perm [2, 1] := by decide

theorem test_witness_StepRunsDecodedRequest :
    (asking 0x0001040700000003).sched = .core :: [] ∧ (asking 0x0001040700000003).phase = .idle ∧
      (asking 0x0001040700000003).reqValid = true ∧
      decode (asking 0x0001040700000003).cfg.table (asking 0x0001040700000003).reqWord =
        .ok (.getFirmwareVersion 0) ∧
      ready.sched = .core :: [] ∧ ready.phase = .idle ∧ ready.reqValid = false := by decide

/-- The clauses at their boundaries are refusals and acceptances. -/
theorem test_witness_PortRefusesFirstReason :
    (asking 0x0003060601000003).sched = .core :: [] ∧ (asking 0x0003060601000003).phase = .idle ∧
      (asking 0x0003060601000003).reqValid = true := by decide

theorem test_witness_RefusalMarkIsSticky :
    ({ ready with refusalMark := some .noOp } : State).nextEvent ≠ .hostReset ∧
      (next? (step { ready with refusalMark := some .noOp })).isSome = true := by decide

theorem test_witness_DecodeOfEncodeIsIdentity :
    CmdTable.Distinct Config.defaultTable ∧
      Instr.Encodable Config.defaultTable (.sendGeneric 0xFFFFFFFF 0xFFFFFF) ∧
      Instr.Encodable Config.defaultTable (.setBaudRate 0xFFFFFF) ∧
      Instr.Encodable Config.defaultTable (.reservedOp0 0x3FFFFFFFFFFFFFFF) := by decide

theorem test_witness_EncodeOfDecodeIsIdentity :
    decode Config.defaultTable 0xFFFFFFFFFFFFFF03 = .ok (.sendGeneric 0xFFFFFFFF 0xFFFFFF) := by decide

theorem test_witness_RefusalsWithoutOpenTransport :
    State.reset.phase = .idle ∧ State.reset.opened = false := by decide

theorem test_witness_RequestHeldWhileBusy :
    ({ searching (Vector.replicate 9 0) [] with reqValid := true } : State).phase ≠ .idle ∧
      (next? (step { searching (Vector.replicate 9 0) [] with reqValid := true })).isSome = true ∧
      ∀ v, ({ searching (Vector.replicate 9 0) [] with reqValid := true } : State).nextEvent ≠
        .hostRequest v := ⟨by decide, by decide, fun _ h => nomatch h⟩

/-- Both values of XPORT_OK. -/
theorem test_witness_BeginAccepted :
    State.reset.phase = .idle ∧ State.reset.xportOk = false ∧ ready.phase = .idle ∧
      ready.xportOk = true := by decide

theorem test_witness_BeginPollIteration :
    ∀ e ∈ [true, false], ∀ q ∈ [[], [(0x59 : Byte)]],
      (settling e q).phase = .bgSettle ∧ (settling e q).tmrExp = e := by decide

theorem test_witness_GetDataAccepted :
    ready.phase = .idle ∧ ready.opened = true ∧ (next? (exec (.getData 0 0) ready)).isSome = true := by
  decide

/-- Nine and ten waiting bytes (R142). -/
theorem test_witness_DrainBoundary :
    (next? (exec (.getData 0 0) { ready with rxq := List.range 9 |>.map (BitVec.ofNat 8) })).map
        (·.rxq.length) = some 9 ∧
      (next? (exec (.getData 0 0) { ready with rxq := List.range 10 |>.map (BitVec.ofNat 8) })).map
        (·.rxq.head?) = some (some 1) := by decide

/-- With a waiting byte and without. -/
theorem test_witness_FrameWindowShifts :
    (searching (Vector.replicate 9 0) [7]).phase = .gdSync ∧
      (next? (coreTurn (searching (Vector.replicate 9 0) [7]))).isSome = true ∧
      (next? (coreTurn (searching (Vector.replicate 9 0) []))).isSome = true := by decide

/-- A search whose first byte is the second of a header, the deadline expired or not. -/
def halfway (expired : Bool) : State :=
  { searching (Vector.replicate 9 0) [0x59] with tmrExp := expired }

/-- Both values of TMR_EXP. -/
theorem test_witness_FramePollWithoutHeader :
    ∀ e ∈ [true, false], (halfway e).phase = .gdSync ∧
      #v[0, 0, 0, 0, 0, 0, 0, 0, 0x59] =
        (match (halfway e).rxq with
        | [] => (halfway e).frame
        | b :: _ => shiftFrame (halfway e).frame b) ∧
      ¬ ((0x00 : Byte) = 0x59 ∧ (0x00 : Byte) = 0x59) ∧ (halfway e).tmrExp = e := by decide

theorem test_witness_FramePollChecksumFailure :
    (searching #v[0, 0x59, 0x59, 0x64, 0, 0xF4, 0x01, 0, 0x08] [0x14]).phase = .gdSync ∧
      #v[0x59, 0x59, 0x64, 0, 0xF4, 0x01, 0, 0x08, 0x14] =
        (match (searching #v[0, 0x59, 0x59, 0x64, 0, 0xF4, 0x01, 0, 0x08] [0x14]).rxq with
        | [] => (searching #v[0, 0x59, 0x59, 0x64, 0, 0xF4, 0x01, 0, 0x08] [0x14]).frame
        | b :: _ => shiftFrame (searching #v[0, 0x59, 0x59, 0x64, 0, 0xF4, 0x01, 0, 0x08] [0x14]).frame b) ∧
      (0x59 + 0x59 + 0x64 + 0x00 + 0xF4 + 0x01 + 0x00 + 0x08) % 256 ≠ 0x14 := by decide

/-- The other status clauses are in frame_overrides. -/
theorem test_witness_FramePollDecodes :
    (searching #v[0, 0x59, 0x59, 0x64, 0, 0xF4, 0x01, 0, 0x08] [0x13]).phase = .gdSync ∧
      #v[0x59, 0x59, 0x64, 0, 0xF4, 0x01, 0, 0x08, 0x13] =
        (match (searching #v[0, 0x59, 0x59, 0x64, 0, 0xF4, 0x01, 0, 0x08] [0x13]).rxq with
        | [] => (searching #v[0, 0x59, 0x59, 0x64, 0, 0xF4, 0x01, 0, 0x08] [0x13]).frame
        | b :: _ => shiftFrame (searching #v[0, 0x59, 0x59, 0x64, 0, 0xF4, 0x01, 0, 0x08] [0x13]).frame b) ∧
      (0x59 + 0x59 + 0x64 + 0x00 + 0xF4 + 0x01 + 0x00 + 0x08) % 256 = 0x13 := by decide

/-- Eight header bytes waiting, and `k` turns of the core. -/
def eight (k : Nat) : State :=
  { searching (Vector.replicate 9 0) (List.replicate 8 0x59) with sched := List.replicate k .core }

/-- The smallest and the largest k. -/
theorem test_witness_NoFrameMatchBeforeNineBytes :
    ∀ k ∈ [0, 8], k < 9 ∧ (eight k).phase = .gdSync ∧ (eight k).frame = Vector.replicate 9 0 ∧
      (eight k).tmrExp = false ∧ k ≤ (eight k).rxq.length ∧
      (eight k).sched = List.replicate k .core ++ [] := by decide

/-- The bytes of V-F6, where the first pair stands at index 3, and twelve turns of the core. -/
def noisy : State :=
  { searching (Vector.replicate 9 0)
      [0x12, 0x59, 0x34, 0x59, 0x59, 0x64, 0, 0xF4, 0x01, 0, 0x08, 0x13] with
    sched := List.replicate 12 .core }

theorem test_witness_FirstHeaderPairWins :
    noisy.phase = .gdSync ∧ noisy.frame = Vector.replicate 9 0 ∧ noisy.tmrExp = false ∧
      noisy.rxq[3]? = some 0x59 ∧ noisy.rxq[3 + 1]? = some 0x59 ∧ 3 + 9 ≤ noisy.rxq.length ∧
      (∀ j < 3, ¬ (noisy.rxq[j]? = some 0x59 ∧ noisy.rxq[j + 1]? = some 0x59)) ∧
      noisy.sched = List.replicate (3 + 9) .core ++ [] := by decide

/-- GET_DATA at the port of an idle core, nothing waiting, and a deadline that expires at once. -/
def silent : State := { asking 2 with sched := [.core, .timer, .core] }

theorem test_witness_SilentTransportTimesOut :
    silent.phase = .idle ∧ silent.opened = true ∧ silent.rxq = [] ∧ silent.reqValid = true ∧
      silent.reqWord = encode silent.cfg.table (.getData 0 0) ∧ silent.cfg.deadlineMinPolls ≤ 0 ∧
      silent.sched = .core :: (List.replicate 0 .core ++ [.timer, .core] ++ []) := by decide

/-- The smallest and the largest reply length. -/
theorem test_witness_ReplyValidComparesSum :
    (3 ≤ 3 ∧ 3 ≤ 11) ∧ (3 ≤ 11 ∧ 11 ≤ 11) := by decide

theorem test_witness_FrameCheckDetectsOneByteChange :
    frameValid #v[0x59, 0x59, 0x64, 0, 0xF4, 0x01, 0, 0x08, 0x13] = true ∧
      (0x14 : Byte) ≠ (#v[0x59, 0x59, 0x64, 0, 0xF4, 0x01, 0, 0x08, 0x13] : Vector Byte 9)[8] ∧ 0 < 8 ∧ 7 < 8 := by
  decide

/-- CL = 3 and CL = 8, and both setters. -/
theorem test_witness_PacketLayout :
    CmdTable.Valid Config.defaultTable ∧ CmdWord.WellFormed 0x00000300 ∧
      CmdWord.WellFormed 0xAABB0800 ∧ CmdWord.WellFormed Config.defaultTable.setFrameRate ∧
      CmdWord.WellFormed Config.defaultTable.setBaudRate := by decide

theorem test_witness_EncodedPacketProperties :
    CmdTable.Valid Config.defaultTable ∧ CmdTable.SourceLengths Config.defaultTable ∧
      CmdWord.WellFormed 0x00000300 ∧ (0x00000300 : CmdWord) ≠ Config.defaultTable.setFrameRate ∧
      (0x00000300 : CmdWord) ≠ Config.defaultTable.setBaudRate ∧
      (0x00FFFF : Param).extractLsb' 16 8 = 0 := by decide

/-- A reply length of 0, and one of 3. -/
theorem test_witness_GenericCommandAccepted :
    ready.phase = .idle ∧ ready.opened = true ∧ CmdWord.WellFormed 0x00000300 ∧
      CmdWord.WellFormed 0x00000503 ∧
      ¬ ((0x00000503 : CmdWord) = ready.cfg.table.setFrameRate ∧
        (0 : Param).extractLsb' 16 8 ≠ 0) := by decide

/-- For FirmwareQuerySends, TriggerCompletesAtOnce, ResetAndSaveSend, SetFrameRateSends,
SetBaudRateSends, FormatAndOutputSend and AddressAndModeSend, which share these hypotheses. -/
theorem test_witness_NamedSends :
    ready.phase = .idle ∧ ready.opened = true ∧ CmdTable.SourceLengths ready.cfg.table ∧
      (0xFFFF : Param).toNat < 0x10000 ∧ ¬ (0x10000 : Param).toNat < 0x10000 := by decide

/-- The smallest window, with a waiting byte and without. -/
theorem test_witness_ReplyWindowShifts :
    (awaiting 0x00000503 (Vector.replicate 11 0) [7]).phase = .scSync ∧
      (awaiting 0x00000503 (Vector.replicate 11 0) [7]).rlen ≠ 0 ∧
      (awaiting 0x00000503 (Vector.replicate 11 0) [7]).rlen.toNat ≤ 11 ∧
      (next? (coreTurn (awaiting 0x00000503 (Vector.replicate 11 0) [7]))).isSome = true ∧
      (next? (coreTurn (awaiting 0x00000503 (Vector.replicate 11 0) []))).isSome = true := by decide

/-- The widest window, with a waiting byte. -/
theorem test_witness_ReplyWindowShifts_widest :
    (awaiting 0x0000050B (Vector.replicate 11 0) [7]).phase = .scSync ∧
      (awaiting 0x0000050B (Vector.replicate 11 0) [7]).rlen ≠ 0 ∧
      (awaiting 0x0000050B (Vector.replicate 11 0) [7]).rlen.toNat ≤ 11 ∧
      (next? (coreTurn (awaiting 0x0000050B (Vector.replicate 11 0) [7]))).isSome = true := by decide

/-- A reply of three bytes awaited, none here yet, the deadline expired or not. -/
def unanswered (expired : Bool) : State :=
  { awaiting 0x00000503 (Vector.replicate 11 0) [] with tmrExp := expired }

/-- Both values of TMR_EXP. -/
theorem test_witness_ReplyPollWithoutHeader :
    ∀ e ∈ [true, false], (unanswered e).phase = .scSync ∧
      #v[0, 0, 0, 0, 0, 0, 0, 0, 0, 0, 0] =
        (match (unanswered e).rxq with
        | [] => (unanswered e).reply
        | b :: _ => shiftReply (unanswered e).reply (unanswered e).rlen.toNat b) ∧
      ¬ ((0x00 : Byte) = 0x5A ∧ (0x00 : Byte) = (unanswered e).rlen) ∧ (unanswered e).tmrExp = e := by
  decide

/-- A reply of three bytes, the last with a wrong checksum and not yet received. -/
def corrupted : State := awaiting 0x00000503 #v[0, 0x5A, 0x03, 0, 0, 0, 0, 0, 0, 0, 0] [0x5C]

theorem test_witness_ReplyPollChecksumFailure :
    corrupted.phase = .scSync ∧
      #v[0x5A, 0x03, 0x5C, 0, 0, 0, 0, 0, 0, 0, 0] =
        (match (corrupted).rxq with
        | [] => (corrupted).reply
        | b :: _ => shiftReply (corrupted).reply (corrupted).rlen.toNat b) ∧
      (0x03 : Byte) = corrupted.rlen ∧ replyValid #v[0x5A, 0x03, 0x5C, 0, 0, 0, 0, 0, 0, 0, 0] corrupted.rlen.toNat = false := by
  decide

/-- A SOFT_RESET whose reply reports a failure, the last byte not yet received (V-C3a). -/
def failing : State := awaiting 0x00020405 #v[0, 0x5A, 0x05, 0x02, 0x01, 0, 0, 0, 0, 0, 0] [0x62]

/-- The other cases are in reply_version and reply_device_failure. -/
theorem test_witness_ReplyPollPostProcesses :
    failing.phase = .scSync ∧ CmdTable.Valid failing.cfg.table ∧
      #v[0x5A, 0x05, 0x02, 0x01, 0x62, 0, 0, 0, 0, 0, 0] =
        (match (failing).rxq with
        | [] => (failing).reply
        | b :: _ => shiftReply (failing).reply (failing).rlen.toNat b) ∧
      (0x05 : Byte) = failing.rlen ∧ replyValid #v[0x5A, 0x05, 0x02, 0x01, 0x62, 0, 0, 0, 0, 0, 0] failing.rlen.toNat = true := by
  decide

/-- A noise byte 5A, a reply of three bytes, and four turns of the core. -/
def answered : State :=
  { awaiting 0x00000503 (Vector.replicate 11 0) [0x5A, 0x5A, 0x03, 0x5D] with sched := List.replicate 4 .core }

theorem test_witness_FirstReplyPairWins :
    answered.phase = .scSync ∧ answered.reply = Vector.replicate 11 0 ∧ answered.tmrExp = false ∧
      3 ≤ answered.rlen.toNat ∧ answered.rlen.toNat ≤ 11 ∧
      answered.rxq[1]? = some 0x5A ∧ answered.rxq[1 + 1]? = some answered.rlen ∧
      1 + answered.rlen.toNat ≤ answered.rxq.length ∧
      (∀ j < 1, ¬ (answered.rxq[j]? = some 0x5A ∧ answered.rxq[j + 1]? = some answered.rlen)) ∧
      answered.sched = List.replicate (1 + answered.rlen.toNat) .core ++ [] := by decide

/-- An idle state. -/
theorem test_witness_InvariantKeptByStep :
    ready.Inv ∧
      (next? (step ready)).isSome = true := 
    ⟨by refine ⟨?_, ?_, ?_, ?_, ?_, ?_, ?_, ?_, ?_, ?_, ?_⟩ <;> decide, by decide⟩

/-- A GET_DATA about to complete. -/
theorem test_witness_InvariantKeptByStep_frame :
    (searching #v[0, 0x59, 0x59, 0x64, 0, 0xF4, 0x01, 0, 0x08] [0x13]).Inv ∧
      (next? (step (searching #v[0, 0x59, 0x59, 0x64, 0, 0xF4, 0x01, 0, 0x08] [0x13]))).isSome = true := 
    ⟨by refine ⟨?_, ?_, ?_, ?_, ?_, ?_, ?_, ?_, ?_, ?_, ?_⟩ <;> decide, by decide⟩

/-- A SEND_COMMAND about to complete. -/
theorem test_witness_InvariantKeptByStep_reply :
    (awaiting 0x00000503 #v[0, 0x5A, 0x03, 0, 0, 0, 0, 0, 0, 0, 0] [0x5D]).Inv ∧
      (next? (step (awaiting 0x00000503 #v[0, 0x5A, 0x03, 0, 0, 0, 0, 0, 0, 0, 0] [0x5D]))).isSome = true := 
    ⟨by refine ⟨?_, ?_, ?_, ?_, ?_, ?_, ?_, ?_, ?_, ?_, ?_⟩ <;> decide, by decide⟩

/-- A first BEGIN about to complete. -/
theorem test_witness_InvariantKeptByStep_begin :
    (settling true []).Inv ∧
      (next? (step (settling true []))).isSome = true := 
    ⟨by refine ⟨?_, ?_, ?_, ?_, ?_, ?_, ?_, ?_, ?_, ?_, ?_⟩ <;> decide, by decide⟩

/-- The stop, at a full buffer. -/
theorem test_witness_OnlyOverflowStops :
    step { ready with sched := [.rx 7], cfg := { rxCap := some 1 }, rxq := [3] } = .refused .rxOverflow := rfl

/-- Both clauses; also of ParametersNeverChange, whose hypothesis is a next state. -/
theorem test_witness_StatusWrittenByCompletionOnly :
    (searching #v[0, 0x59, 0x59, 0x64, 0, 0xF4, 0x01, 0, 0x08] [0x13]).nextEvent ≠ .hostReset ∧
      (next? (step (searching #v[0, 0x59, 0x59, 0x64, 0, 0xF4, 0x01, 0, 0x08] [0x13]))).map (·.done) =
        some true ∧
      (next? (step (searching (Vector.replicate 9 0) [0x13]))).map (·.done) = some false := by decide

theorem test_witness_MeasurementWrittenByValidFrameOnly :
    (searching #v[0, 0x59, 0x59, 0x64, 0, 0xF4, 0x01, 0, 0x08] [0x13]).nextEvent ≠ .hostReset ∧
      (next? (step (searching #v[0, 0x59, 0x59, 0x64, 0, 0xF4, 0x01, 0, 0x08] [0x13]))).any
        (fun t => t.dist != 0) = true := by decide

theorem test_witness_VersionWrittenByQueryOnly :
    (awaiting 0x00010407 #v[0, 0x5A, 0x07, 0x01, 0x03, 0x05, 0x07, 0, 0, 0, 0] [0x71]).nextEvent ≠ .hostReset ∧
      (next? (step (awaiting 0x00010407 #v[0, 0x5A, 0x07, 0x01, 0x03, 0x05, 0x07, 0, 0, 0, 0] [0x71]))).any
        (fun t => t.ver != #v[0, 0, 0]) = true := by decide

theorem test_witness_OtherAgentsLeaveCoreAlone :
    ∀ e ∈ [Event.txd, .timer, .rx 7, .hostXport true, .hostRequest 1, .hostRead 0, .hostWrite 0 0],
      ({ ready with sched := [e], txq := [1] } : State).nextEvent ≠ .core ∧
      ({ ready with sched := [e], txq := [1] } : State).nextEvent ≠ .hostReset ∧
      (next? (step { ready with sched := [e], txq := [1] })).isSome = true := by decide

/-- RX's turn on an RXQ of one byte, under RX_CAP and a parameter for a full RXQ. -/
def arriving (cap : Option Nat) (full : RxFull) : State :=
  { ready with sched := [.rx 7], rxq := [3], cfg := { rxCap := cap, rxFull := full } }

/-- No RX_CAP, room for one, a full RXQ under each parameter; TXQ with bytes and without. -/
theorem test_witness_TransportTurns :
    (arriving none .refuse).sched = .rx 7 :: [] ∧
      (next? (step (arriving none .refuse))).map (·.rxq) = some [3, 7] ∧
      (∀ cap ∈ (arriving (some 2) .refuse).cfg.rxCap, (arriving (some 2) .refuse).rxq.length < cap) ∧
      (next? (step (arriving (some 2) .refuse))).map (·.rxq) = some [3, 7] ∧
      (∀ f, 1 ∈ (arriving (some 1) f).cfg.rxCap ∧ 1 ≤ (arriving (some 1) f).rxq.length) ∧
      (next? (step (arriving (some 1) .dropNewest))).map (·.rxq) = some [3] ∧
      (next? (step (arriving (some 1) .dropOldest))).map (·.rxq) = some [7] ∧
      next? (step (arriving (some 1) .refuse)) = none ∧
      ({ ready with sched := [.txd], txq := [1, 2] } : State).txq = 1 :: [2] ∧ ready.txq = [] := 
    ⟨rfl, by decide, by decide, by decide, fun f => by cases f <;> decide, by decide, by decide,
      by decide, rfl, rfl⟩

/-- The settle timer, a deadline one poll too early, and no timer (R43). -/
theorem test_witness_TimerTurnExpires :
    ({ settling false [] with sched := [.timer] } : State).sched = .timer :: [] ∧
      (next? (step { settling false [] with sched := [.timer] })).map (·.tmrExp) = some true ∧
      (next? (step { searching (Vector.replicate 9 0) [] with
        sched := [.timer], cfg := { deadlineMinPolls := 1 } })).map (·.tmrExp) = some false ∧
      (next? (step { ready with sched := [.timer] })).map (·.tmrExp) = some false := by decide

theorem test_witness_ExpiredOperationCompletes :
    (settling true []).sched = .core :: [] ∧ (settling true []).phase ≠ .idle ∧
      (settling true []).tmrExp = true := by decide

/-- A settle wait that expires, completes, and is left alone. -/
def fairTurn : Nat → Event
  | 0 => .timer
  | 1 => .core
  | _ + 2 => .txd

/-- The states of that run: a BEGIN that settles, that has expired, that completes, and after it. -/
def fairState : Nat → State
  | 0 => { settling false [] with sched := [] }
  | 1 => { settling true [] with sched := [] }
  | 2 => { settling true [] with
           sched := [], phase := .idle, begun := true, status := .serialError, tmr := .none,
           tmrPolls := 1, done := true }
  | _ + 3 => { settling true [] with
               sched := [], phase := .idle, begun := true, status := .serialError, tmr := .none,
               tmrPolls := 1 }

/-- The second clause: a fair run with a running operation (R43, R48). -/
theorem test_witness_FairRun :
    FairRun fairTurn fairState ∧ (fairState 0).TimerMatchesPhase ∧ (fairState 0).phase ≠ .idle where
  left :=
    { isRun := fun n => match n with
        | 0 => ⟨[.timer], 0, rfl, rfl⟩
        | 1 => ⟨[.core], 0, rfl, rfl⟩
        | 2 => ⟨[.txd], 0, rfl, rfl⟩
        | _ + 3 => ⟨[.txd], 0, rfl, rfl⟩
      core := fun n h => (Bool.false_ne_true (h (n + 3) (by omega))).elim
      timer := fun n h => absurd rfl (h (n + 3) (by omega)) }
  right := by decide

/-- A poll that pops nothing, one that pops, one with no byte. -/
theorem test_witness_PollPopsAtMostOneByte :
    ∀ s ∈ [settling true [1], searching (Vector.replicate 9 0) [1], searching (Vector.replicate 9 0) []],
      s.sched = .core :: [] ∧ s.phase ≠ .idle ∧ (next? (step s)).isSome = true := by decide

/-- Both clauses. -/
theorem test_witness_OutputStaysInOrder :
    (next? (step { ready with sched := [.txd], txq := [1] })).map (fun t => (t.txq, t.wire)) =
        some ([], [1]) ∧
      (next? (step { asking 0x0000030000000003 with txq := [1], wire := [2] })).map
        (fun t => (t.txq, t.wire)) = some ([0x5A, 0x03, 0x5D], [2]) := by decide

theorem test_witness_RequestFrame :
    (next? (exec (.beginOp 0 0) ready)).isSome = true ∧ (next? (exec (.getData 0 0) ready)).isSome = true ∧
      (next? (exec (.setI2cMode 0) ready)).isSome = true ∧
      (next? (exec (.reservedOp0 0) ready)).isSome = true := by decide

/-- `s` with other results, other unsent bytes and another timer history left behind. -/
def another (s : State) : State :=
  { s with status := .weakSignal, ok := false, begun := false, dist := -1, ver := #v[1, 2, 3],
           txq := [9], wire := [8], refusalMark := some .noOp }

/-- An idle core with a request, a GET_DATA and a SEND_COMMAND, the last with equal TXQ. -/
theorem test_witness_OperationsAreIndependent :
    (asking 2).SameButResults { another (asking 2) with tmrExp := true, tmrPolls := 5 } ∧
      (next? (step (asking 2))).isSome = true ∧
      (searching #v[0, 0x59, 0x59, 0x64, 0, 0xF4, 0x01, 0, 0x08] [0x13]).SameButResults
        (another (searching #v[0, 0x59, 0x59, 0x64, 0, 0xF4, 0x01, 0, 0x08] [0x13])) ∧
      (awaiting 0x00000503 (Vector.replicate 11 0) [7]).SameButResults
        { another (awaiting 0x00000503 (Vector.replicate 11 0) [7]) with txq := [] } := 
    ⟨by constructor <;> decide, by decide, by constructor <;> decide, by constructor <;> decide⟩

/-- A step that keeps it, and both that set it. -/
theorem test_witness_BegunSetByBeginOnly :
    (settling true []).nextEvent ≠ .hostReset ∧ (settling true []).begun = false ∧
      (next? (step (settling true []))).map (·.begun) = some true ∧ ready.begun = true ∧
      (next? (step ready)).isSome = true ∧
      (State.reset.present 1).nextEvent ≠ .hostReset ∧ (State.reset.present 1).begun = false ∧
      (next? (step (State.reset.present 1))).map (·.begun) = some true := by decide

/-- The reserved indices at their boundaries. -/
theorem test_witness_ReadViewContents :
    ∀ i ∈ [(0x15 : Byte), 0x1F], 0x15 ≤ i.toNat ∧ i.toNat ≤ 0x1F ∧ ready.readByte i = 0 ∧
      ready.readByte 0x2B = 0 ∧ ready.readByte 0xFF = 0 := by decide

/-- A read, a write, a request that takes the place of a held one, and both values of XPORT_OK. -/
theorem test_witness_HostReadViewAccess :
    ({ ready with sched := [.hostRead 0x01] } : State).sched = .hostRead 0x01 :: [] ∧
      (next? (step { ready with sched := [.hostRead 0x01] })).map (·.rdData) = some 0x4D ∧
      ({ ready with sched := [.hostWrite 0 7] } : State).sched = .hostWrite 0 7 :: [] ∧
      ({ asking 2 with sched := [.hostRequest 1] } : State).sched = .hostRequest 1 :: [] ∧
      (next? (step { asking 2 with sched := [.hostRequest 1] })).map
        (fun t => (t.reqValid, t.reqWord)) = some (true, 1) ∧
      ∀ b, ({ ready with sched := [.hostXport b] } : State).sched = .hostXport b :: [] ∧
        (next? (step { ready with sched := [.hostXport b] })).map (·.xportOk) = some b := by decide

theorem test_witness_ScriptLinesAssemble :
    CmdTable.Valid Config.defaultTable ∧ 0xFFFFFF < 2 ^ 24 ∧ ([0] : List (Fin 10)) ≠ [] ∧
      ([(15, true), (10, false)] : List (Fin 16 × Bool)) ≠ [] ∧ number? "100".toList = some 100 ∧
      number? "0x100B050B".toList = some 0x100B050B ∧ number? "0xfF".toList = some 255 := by decide

end Sys2Proof.Tests
end

/-! ## Proofs: the scope of the build (00_scope.md) -/

namespace Sys2Proof.Machine

/-! ### The parameters through the acceptance steps -/

@[simp] theorem acceptBegin_cfg (s : State) : (acceptBegin s).cfg = s.cfg := by
  rw [acceptBegin_eq]
  split <;> rfl

@[simp] theorem acceptGetData_cfg (s : State) : (acceptGetData s).cfg = s.cfg := by
  rw [acceptGetData_eq]

@[simp] theorem acceptSend_cfg (cmd : CmdWord) (p : Param) (s : State) :
    (acceptSend cmd p s).cfg = s.cfg := by
  rw [acceptSend_eq]
  split <;> rfl

/-! ### The parameters through the poll iterations -/

@[simp] theorem pollBegin_cfg (s : State) : (pollBegin s).cfg = s.cfg := by
  rcases pollBegin_cases s with ⟨-, e⟩ | ⟨-, -, e⟩ | ⟨-, -, e⟩ <;> simp [e]

@[simp] theorem pollGetData_cfg (s : State) : (pollGetData s).cfg = s.cfg := by
  rcases pollGetData_cases s with ⟨-, -, e⟩ | ⟨-, -, e⟩ | ⟨-, -, e⟩ | ⟨-, -, e⟩ <;> simp [e]

@[simp] theorem State.postProcess_cfg (s : State) : s.postProcess.cfg = s.cfg := by
  rcases postProcess_cases s with ⟨-, e⟩ | ⟨-, -, -, e⟩ | ⟨-, -, e⟩ <;> simp [e]

@[simp] theorem pollSend_cfg (s : State) : (pollSend s).cfg = s.cfg := by
  rcases pollSend_cases s with ⟨-, -, e⟩ | ⟨-, -, e⟩ | ⟨-, -, e⟩ | ⟨-, -, e⟩ <;> simp [e]

/-! ### The parameters through the agents' turns -/

theorem acceptRequest_keeps_cfg {s t : State} (hp : s.phase = .idle)
    (h : acceptRequest s = .next t) : t.cfg = s.cfg := by
  rcases acceptRequest_cases hp h with ⟨r, rfl⟩ | ⟨-, rfl⟩ | ⟨-, -, rfl⟩ | ⟨-, -, rfl⟩ <;> simp

theorem coreTurn_keeps_cfg {s t : State} (h : coreTurn s = .next t) : t.cfg = s.cfg := by
  rcases coreTurn_cases h with ⟨-, -, rfl⟩ | ⟨hp, -, ha⟩ | ⟨-, rfl⟩ | ⟨-, rfl⟩ | ⟨-, rfl⟩
  · rfl
  · exact acceptRequest_keeps_cfg hp ha
  · exact pollGetData_cfg s
  · exact pollSend_cfg s
  · exact pollBegin_cfg s

/-- An arrival reads RX_CAP and what a full buffer does (decision D31); it writes neither. -/
theorem rxTurn_keeps_cfg {b : Byte} {s t : State} (h : rxTurn b s = .next t) : t.cfg = s.cfg := by
  rcases rxTurn_cases b s with ⟨e, -⟩ | ⟨_, -, -, ⟨-, e⟩ | ⟨-, e⟩ | ⟨-, e⟩⟩ <;> rw [e] at h <;>
    cases h <;> rfl

@[simp] theorem txdTurn_cfg (s : State) : (txdTurn s).cfg = s.cfg := by
  rcases txdTurn_cases s with ⟨-, e⟩ | ⟨_, _, -, e⟩ <;> rw [e]

@[simp] theorem timerTurn_cfg (s : State) : (timerTurn s).cfg = s.cfg := by
  rcases timerTurn_cases s with ⟨-, e⟩ | ⟨-, e⟩ <;> rw [e]

@[simp] theorem hostWriteTurn_cfg (s : State) : (hostWriteTurn s).cfg = s.cfg := rfl

/-- No agent's step writes the parameters, a core reset among them (R7, R83, R341). -/
theorem step_keeps_cfg {s t : State} (h : step s = .next t) : t.cfg = s.cfg := by
  rw [← s.startStep_cfg]
  rcases step_cases h with ⟨-, h⟩ | ⟨_, -, h⟩ | ⟨-, rfl⟩ | ⟨-, rfl⟩ | ⟨_, -, rfl⟩ | ⟨_, -, rfl⟩ |
    ⟨_, -, rfl⟩ | ⟨_, _, -, rfl⟩ | ⟨-, rfl⟩
  · exact coreTurn_keeps_cfg h
  · exact rxTurn_keeps_cfg h
  · exact txdTurn_cfg _
  · exact timerTurn_cfg _
  · rfl
  · rfl
  · rfl
  · exact hostWriteTurn_cfg _
  · exact State.coreReset_cfg _

/-- Settles O45, by the turns of the five agents. -/
theorem parametersNeverChange : Obligations.ParametersNeverChange :=
  fun _ _ => step_keeps_cfg

end Sys2Proof.Machine

/-! ## Proofs: the invariant of a run (10_state.md) -/

namespace Sys2Proof.Machine

/-! ### TEMP, the signal statuses and the reply window -/

/-- TEMP of every raw value lies in -256..7935 (R32, R150). -/
theorem tempOf_inRange (raw : Word16) : -256 ≤ s16 (tempOf raw) ∧ s16 (tempOf raw) ≤ 7935 := by
  have hlt := raw.isLt
  have hd : raw.toNat >>> 3 = raw.toNat / 8 := Nat.shiftRight_eq_div_pow _ 3
  have ht : s16 (tempOf raw) = ((raw.toNat / 8 : Nat) : Int) - 256 := by
    unfold s16 tempOf
    rw [hd]
    exact BitVec.toInt_ofInt_eq_self (by decide) (by omega) (by omega)
  omega

/-- A status that names no signal asks nothing of the measurement (R301). -/
theorem signalMatches_of_noSignal {s : State} (hw : s.status ≠ .weakSignal)
    (hs : s.status ≠ .strongSignal) (hf : s.status ≠ .floodSignal) :
    s.SignalMatchesMeasurement :=
  ⟨(absurd · hw), (absurd · hs), (absurd · hf)⟩

/-- The status of a decoded frame agrees with its measurement (R151). -/
theorem signalMatches_of_override {s : State} (h : s.status = override s.dist s.flux) :
    s.SignalMatchesMeasurement := by
  unfold override at h
  split at h
  · simp_all [State.SignalMatchesMeasurement]
  · split at h
    · simp_all [State.SignalMatchesMeasurement]
    · split at h <;> simp_all [State.SignalMatchesMeasurement]

/-- A decoded frame gives a status that some operation produces (R24, R151). -/
theorem override_produced (dist flux : Word16) : (override dist flux).produced = true := by
  unfold override
  split
  · rfl
  · split
    · rfl
    · split <;> rfl

/-- The bytes beyond the width in use are not touched by a shift (R201). -/
theorem shiftReply_beyond (R : Vector Byte 11) (rl : Nat) (b : Byte) (i : Fin 11) (h : rl ≤ i.val) :
    (shiftReply R rl b)[i] = R[i] := by
  have h1 : ¬ i.val + 1 < rl := by omega
  have h2 : ¬ i.val + 1 = rl := by omega
  simp [shiftReply, h1, h2]

/-- A window of zeros starts with no frame header. -/
theorem headerMatch_zeros : headerMatch (Vector.replicate 9 0) = false := by decide

/-- A window of zeros starts with no reply header, whatever the width. -/
theorem replyHeader_zeros (rl : Byte) : replyHeader (Vector.replicate 11 0) rl = false := by
  simp [replyHeader, Config.cmdHdr]

/-! ### The byte received in a poll iteration, as one record -/

theorem State.receiveFrameByte_eq (s : State) :
    s.receiveFrameByte =
      { s with frame := s.nextFrame, rxq := s.rxq.tail, strobes := s.strobes.pop s.rxq } := by
  cases h : s.rxq with
  | nil =>
    simp only [State.receiveFrameByte, State.rxPop, State.nextFrame, Strobes.pop, h,
      List.tail_nil, if_true]
    rw [← h]
  | cons b q => simp [State.receiveFrameByte, State.rxPop, State.nextFrame, Strobes.pop, h]

theorem State.receiveReplyByte_eq (s : State) :
    s.receiveReplyByte =
      { s with reply := s.nextReply, rxq := s.rxq.tail, strobes := s.strobes.pop s.rxq } := by
  cases h : s.rxq with
  | nil =>
    simp only [State.receiveReplyByte, State.rxPop, State.nextReply, Strobes.pop, h,
      List.tail_nil, if_true]
    rw [← h]
  | cons b q => simp [State.receiveReplyByte, State.rxPop, State.nextReply, Strobes.pop, h]

/-! ### The clauses that do not speak of the running operation -/

/-- RXQ keeps within RX_CAP when it does not grow. -/
theorem rxqWithinCap_of_length_le {s t : State} (h : s.RxqWithinCap) (hc : t.cfg = s.cfg)
    (hl : t.rxq.length ≤ s.rxq.length) : t.RxqWithinCap := by
  intro cap hcap
  exact hl.trans (h cap (hc ▸ hcap))

/-- The part of the invariant that speaks of neither the phase, the timer nor the last outcome: the
reply width and the bytes beyond it, TEMP and RXQ. -/
structure State.DataInv (s : State) : Prop where
  width : s.rlen = 0 ∨ 3 ≤ s.rlen.toNat ∧ s.rlen.toNat ≤ Config.replyMax
  beyond : ∀ i : Fin 11, s.rlen.toNat ≤ i.val → s.reply[i] = 0
  temp : s.TempInRange
  rxq : s.RxqWithinCap

theorem State.Inv.data {s : State} (h : s.Inv) : s.DataInv := by
  obtain ⟨-, -, ⟨hw, hb, -⟩, -, -, -, -, ht, hq, -, -⟩ := h
  exact ⟨hw, hb, ht, hq⟩

theorem State.DataInv.countPoll {s : State} (h : s.DataInv) : s.countPoll.DataInv :=
  ⟨h.width, h.beyond, h.temp, h.rxq⟩

theorem State.DataInv.receiveFrameByte {s : State} (h : s.DataInv) :
    s.receiveFrameByte.DataInv := by
  rw [State.receiveFrameByte_eq]
  exact ⟨h.width, h.beyond, h.temp, rxqWithinCap_of_length_le h.rxq rfl (by simp)⟩

theorem State.DataInv.receiveReplyByte {s : State} (h : s.DataInv) :
    s.receiveReplyByte.DataInv := by
  have hbeyond : ∀ i : Fin 11, s.rlen.toNat ≤ i.val → s.nextReply[i] = 0 := by
    intro i hi
    unfold State.nextReply
    split
    · exact h.beyond i hi
    · rw [shiftReply_beyond _ _ _ i hi]
      exact h.beyond i hi
  rw [State.receiveReplyByte_eq]
  exact ⟨h.width, hbeyond, h.temp, rxqWithinCap_of_length_le h.rxq rfl (by simp)⟩

theorem State.DataInv.decodeFrame {s : State} (h : s.DataInv) : s.decodeFrame.DataInv :=
  ⟨h.width, h.beyond, tempOf_inRange _, h.rxq⟩

/-- A search runs only after the first completion (R27, R28). -/
theorem State.Inv.begun_of_search {s : State} (h : s.Inv)
    (hp : s.phase = .gdSync ∨ s.phase = .scSync) : s.begun = true := by
  obtain ⟨-, -, -, -, -, ⟨-, hn⟩, -⟩ := h
  by_contra hb
  obtain ⟨-, -, hph, -⟩ := hn (by simpa using hb)
  rcases hp with hp | hp <;> simp [hp] at hph

/-- An idle core with an open transport has completed an operation (R27, R28). -/
theorem State.Inv.begun_of_idle {s : State} (h : s.Inv) (hp : s.phase = .idle)
    (ho : s.opened = true) : s.begun = true := by
  obtain ⟨-, -, -, -, -, ⟨-, hn⟩, -⟩ := h
  by_contra hb
  obtain ⟨-, -, -, hset⟩ := hn (by simpa using hb)
  rw [hp] at hset
  cases hset ho

/-! ### Completions -/

/-- A completion establishes the invariant: what it needs is the data clauses, BEGUN, and a produced
status that agrees with the measurement (R256). -/
theorem State.inv_complete {r : State} {st : Status} (hd : r.DataInv) (hb : r.begun = true)
    (hs : (r.complete st).SignalMatchesMeasurement) (hp : st.produced = true) :
    (r.complete st).Inv := by
  refine ⟨⟨fun _ => rfl, nofun, nofun⟩, nofun, ⟨hd.width, hd.beyond, nofun⟩, ⟨nofun, nofun⟩,
    fun h => absurd rfl h, ⟨fun _ => ?_, fun h => ?_⟩, hs, hd.temp, hd.rxq, hp, fun _ => rfl⟩
  · simp [okOf]
  · rw [State.complete_begun, hb] at h
    cases h

/-- The completions whose status names no signal. -/
theorem State.inv_complete_noSignal {r : State} {st : Status} (hd : r.DataInv)
    (hb : r.begun = true)
    (hst : st ∈ [Status.ready, .serialError, .headerTimeout, .checksumFailure, .commandFailed]) :
    (r.complete st).Inv := by
  have hsig : (r.complete st).SignalMatchesMeasurement :=
    signalMatches_of_noSignal (by rintro rfl; simp at hst) (by rintro rfl; simp at hst)
      (by rintro rfl; simp at hst)
  have hprod : ∀ st ∈ [Status.ready, .serialError, .headerTimeout, .checksumFailure,
      .commandFailed], st.produced = true := by decide
  exact State.inv_complete hd hb hsig (hprod st hst)

/-! ### Poll iterations -/

/-- A poll iteration's count keeps the invariant: more iterations make no expiry early (R43). -/
theorem State.Inv.countPoll {s : State} (h : s.Inv) : s.countPoll.Inv := by
  obtain ⟨htm, hdl, hrest⟩ := h
  exact ⟨htm, fun ht hx => (hdl ht hx).trans (Nat.le_succ _), hrest⟩

/-- A GET_DATA poll iteration that goes on keeps the invariant (R144). -/
theorem State.Inv.receiveFrameByte {s : State} (h : s.Inv)
    (hm : headerMatch s.receiveFrameByte.frame = false) : s.receiveFrameByte.Inv := by
  have hd := h.data.receiveFrameByte
  obtain ⟨htm, hdl, ⟨-, -, hrl⟩, ⟨-, hrs⟩, hop, hok, hsig, -, -, hpr, hdn⟩ := h
  rw [State.receiveFrameByte_eq] at hm hd ⊢
  exact ⟨htm, hdl, ⟨hd.width, hd.beyond, hrl⟩, ⟨fun _ => hm, hrs⟩, hop, hok, hsig, hd.temp,
    hd.rxq, hpr, hdn⟩

/-- A SEND_COMMAND poll iteration that goes on keeps the invariant (R202). -/
theorem State.Inv.receiveReplyByte {s : State} (h : s.Inv)
    (hm : replyHeader s.receiveReplyByte.reply s.receiveReplyByte.rlen = false) :
    s.receiveReplyByte.Inv := by
  have hd := h.data.receiveReplyByte
  obtain ⟨htm, hdl, ⟨-, -, hrl⟩, ⟨hfs, -⟩, hop, hok, hsig, -, -, hpr, hdn⟩ := h
  rw [State.receiveReplyByte_eq] at hm hd ⊢
  exact ⟨htm, hdl, ⟨hd.width, hd.beyond, hrl⟩, ⟨hfs, fun _ => hm⟩, hop, hok, hsig, hd.temp,
    hd.rxq, hpr, hdn⟩

theorem pollGetData_keeps_inv {s : State} (h : s.Inv) (hp : s.phase = .gdSync) :
    (pollGetData s).Inv := by
  have hd := h.data.countPoll.receiveFrameByte
  have hb : s.countPoll.receiveFrameByte.begun = true := by simpa using h.begun_of_search (.inl hp)
  rcases pollGetData_cases s with ⟨-, -, e⟩ | ⟨-, -, e⟩ | ⟨-, -, e⟩ | ⟨hm, -, e⟩ <;> rw [e]
  · exact State.inv_complete hd.decodeFrame hb (signalMatches_of_override rfl)
      (override_produced _ _)
  · exact State.inv_complete_noSignal hd hb (by decide)
  · exact State.inv_complete_noSignal hd hb (by decide)
  · exact h.countPoll.receiveFrameByte hm

theorem postProcess_establishes_inv {r : State} (hd : r.DataInv) (hb : r.begun = true) :
    r.postProcess.Inv := by
  rcases postProcess_cases r with ⟨-, e⟩ | ⟨-, -, -, e⟩ | ⟨-, -, e⟩ <;> rw [e]
  · exact State.inv_complete_noSignal ⟨hd.width, hd.beyond, hd.temp, hd.rxq⟩ hb (by decide)
  · exact State.inv_complete_noSignal hd hb (by decide)
  · exact State.inv_complete_noSignal hd hb (by decide)

theorem pollSend_keeps_inv {s : State} (h : s.Inv) (hp : s.phase = .scSync) : (pollSend s).Inv := by
  have hd := h.data.countPoll.receiveReplyByte
  have hb : s.countPoll.receiveReplyByte.begun = true := by simpa using h.begun_of_search (.inr hp)
  rcases pollSend_cases s with ⟨-, -, e⟩ | ⟨-, -, e⟩ | ⟨-, -, e⟩ | ⟨hm, -, e⟩ <;> rw [e]
  · exact postProcess_establishes_inv hd hb
  · exact State.inv_complete_noSignal hd hb (by decide)
  · exact State.inv_complete_noSignal hd hb (by decide)
  · exact h.countPoll.receiveReplyByte hm

/-- BEGIN's completion sets BEGUN itself, so it needs the data clauses only (R262). -/
theorem State.DataInv.inv_completeBegin {r : State} {st : Status} (hd : r.DataInv)
    (hst : st ∈ [Status.ready, .serialError, .headerTimeout, .checksumFailure, .commandFailed]) :
    (r.completeBegin st).Inv :=
  State.inv_complete_noSignal (r := { r with begun := true })
    ⟨hd.width, hd.beyond, hd.temp, hd.rxq⟩ rfl hst

theorem pollBegin_keeps_inv {s : State} (h : s.Inv) : (pollBegin s).Inv := by
  rcases pollBegin_cases s with ⟨-, e⟩ | ⟨-, -, e⟩ | ⟨-, -, e⟩ <;> rw [e]
  · exact h.countPoll
  · exact h.data.countPoll.inv_completeBegin (by decide)
  · exact h.data.countPoll.inv_completeBegin (by decide)

/-! ### Acceptance steps -/

/-- BEGIN's acceptance on a transport that did not open is a completion (R260). -/
theorem acceptBegin_of_closed {s : State} (hx : s.xportOk = false) :
    acceptBegin s = State.completeBegin { s with opened := false } .serialError := by
  simp [acceptBegin, hx]

/-- SEND_COMMAND's acceptance with no reply to await is a completion (R199). -/
theorem acceptSend_of_noReply {cmd : CmdWord} (p : Param) (s : State) (h : cmdRl cmd = 0) :
    acceptSend cmd p s = State.complete
      ({ s with curCmd := cmd }.transmit (encodePacket s.cfg.table cmd p).packet) .ready :=
  if_pos h

theorem acceptBegin_keeps_inv {s : State} (h : s.Inv) (hdn : s.done = false) :
    (acceptBegin s).Inv := by
  have hd := h.data
  cases hx : s.xportOk with
  | false =>
    rw [acceptBegin_of_closed hx]
    exact State.DataInv.inv_completeBegin ⟨hd.width, hd.beyond, hd.temp, hd.rxq⟩ (by decide)
  | true =>
    obtain ⟨-, -, -, -, -, ⟨hok, hnb⟩, hsig, -, -, hpr, -⟩ := h
    rw [acceptBegin_eq, if_pos hx]
    refine ⟨⟨nofun, nofun, fun _ => rfl⟩, nofun, ⟨hd.width, hd.beyond, nofun⟩, ⟨nofun, nofun⟩,
      fun _ => rfl, ⟨hok, fun hb => ?_⟩, hsig, hd.temp, hd.rxq, hpr, ?_⟩
    · obtain ⟨hst, hok, -, -⟩ := hnb hb
      exact ⟨hst, hok, .inr rfl, fun _ => rfl⟩
    · simp [hdn]

theorem acceptGetData_keeps_inv {s : State} (h : s.Inv) (hp : s.phase = .idle)
    (ho : s.opened = true) (hdn : s.done = false) : (acceptGetData s).Inv := by
  have hd := h.data
  have hb := h.begun_of_idle hp ho
  obtain ⟨-, -, -, -, -, ⟨hok, -⟩, hsig, -, -, hpr, -⟩ := h
  rw [acceptGetData_eq]
  refine ⟨⟨nofun, fun _ => rfl, nofun⟩, nofun, ⟨hd.width, hd.beyond, nofun⟩,
    ⟨fun _ => headerMatch_zeros, nofun⟩, fun _ => ho, ⟨hok, ?_⟩, hsig, hd.temp,
    rxqWithinCap_of_length_le hd.rxq rfl ?_, hpr, ?_⟩
  · simp [hb]
  · dsimp only
    split <;> simp
  · simp [hdn]

theorem acceptSend_keeps_inv {s : State} {cmd : CmdWord} {p : Param} (h : s.Inv)
    (hp : s.phase = .idle) (hc : checkSend cmd p s = none) (hdn : s.done = false) :
    (acceptSend cmd p s).Inv := by
  obtain ⟨ho, ⟨-, hwf⟩, -⟩ := checkSend_none_iff.1 hc
  have hd := h.data
  have hb := h.begun_of_idle hp ho
  have hq : State.RxqWithinCap { s with rxq := [] } :=
    rxqWithinCap_of_length_le hd.rxq rfl (Nat.zero_le _)
  by_cases h0 : cmdRl cmd = 0
  · rw [acceptSend_of_noReply p s h0]
    exact State.inv_complete_noSignal ⟨hd.width, hd.beyond, hd.temp, hq⟩ hb (by decide)
  · obtain ⟨-, -, -, -, -, ⟨hok, -⟩, hsig, -, -, hpr, -⟩ := h
    rw [acceptSend_eq, if_neg h0]
    refine ⟨⟨nofun, fun _ => rfl, nofun⟩, nofun, ⟨hwf, ?_, fun _ => ⟨h0, rfl⟩⟩,
      ⟨nofun, fun _ => replyHeader_zeros _⟩, fun _ => ho, ⟨hok, ?_⟩, hsig, hd.temp, hq, hpr, ?_⟩
    · simp
    · simp [hb]
    · simp [hdn]

/-! ### The agents' turns -/

/-- The end of the step before keeps the invariant: done goes low (log 6). -/
theorem State.Inv.startStep {s : State} (h : s.Inv) : s.startStep.Inv := by
  obtain ⟨htm, hdl, hrw, hsu, hop, hok, hsig, ht, hq, hpr, -⟩ := h
  unfold State.startStep
  split <;> exact ⟨htm, hdl, hrw, hsu, hop, hok, hsig, ht, hq, hpr, nofun⟩

theorem acceptRequest_keeps_inv {s t : State} (h : s.Inv) (hp : s.phase = .idle)
    (hdn : s.done = false) (ha : acceptRequest s = .next t) : t.Inv := by
  have ht : s.takeRequest.Inv := h
  rcases acceptRequest_cases hp ha with ⟨r, rfl⟩ | ⟨-, rfl⟩ | ⟨-, ho, rfl⟩ | ⟨-, hc, rfl⟩
  · exact h
  · exact acceptBegin_keeps_inv ht hdn
  · exact acceptGetData_keeps_inv ht hp ho hdn
  · exact acceptSend_keeps_inv ht hp hc hdn

theorem coreTurn_keeps_inv {s t : State} (h : s.Inv) (hdn : s.done = false)
    (hc : coreTurn s = .next t) : t.Inv := by
  rcases coreTurn_cases hc with ⟨-, -, rfl⟩ | ⟨hp, -, ha⟩ | ⟨hp, rfl⟩ | ⟨hp, rfl⟩ | ⟨-, rfl⟩
  · exact h
  · exact acceptRequest_keeps_inv h hp hdn ha
  · exact pollGetData_keeps_inv h hp
  · exact pollSend_keeps_inv h hp
  · exact pollBegin_keeps_inv h

/-- The invariant reads RXQ in one clause only. -/
theorem State.Inv.setRxq {s : State} {q : List Byte} (h : s.Inv)
    (hq : State.RxqWithinCap { s with rxq := q }) : State.Inv { s with rxq := q } := by
  obtain ⟨htm, hdl, hrw, hsu, hop, hok, hsig, ht, -, hpr, hdn⟩ := h
  exact ⟨htm, hdl, hrw, hsu, hop, hok, hsig, ht, hq, hpr, hdn⟩

theorem rxTurn_keeps_inv {b : Byte} {s t : State} (h : s.Inv) (hr : rxTurn b s = .next t) :
    t.Inv := by
  rcases rxTurn_cases b s with ⟨e, hroom⟩ | ⟨cap, hcap, hfull, ⟨-, e⟩ | ⟨-, e⟩ | ⟨-, e⟩⟩ <;>
    rw [e] at hr <;> cases hr
  · refine h.setRxq fun cap hcap => ?_
    have := hroom cap hcap
    simpa using this
  · exact h
  · refine h.setRxq fun cap' hcap' => ?_
    cases Option.mem_unique hcap hcap'
    simp
    omega

theorem txdTurn_keeps_inv {s : State} (h : s.Inv) : (txdTurn s).Inv := by
  rcases txdTurn_cases s with ⟨-, e⟩ | ⟨_, _, -, e⟩ <;> rw [e] <;> exact h

/-- A deadline expires only when enough poll iterations ran (R43). -/
theorem timerTurn_keeps_inv {s : State} (h : s.Inv) : (timerTurn s).Inv := by
  rcases timerTurn_cases s with ⟨hen, e⟩ | ⟨-, e⟩ <;> rw [e]
  · obtain ⟨htm, -, hrest⟩ := h
    refine ⟨htm, fun (hdl : s.tmr = .deadline) _ => ?_, hrest⟩
    obtain ⟨-, hpolls | hset⟩ := (timerEnabled_iff s).1 hen
    · exact hpolls
    · rw [hdl] at hset
      cases hset
  · exact h

/-! ### Reset and every step -/

/-- Power-on satisfies the invariant whatever waits in RXQ: the default build has no RX_CAP (R340). -/
theorem State.powerOn_inv (q : List Byte) : (State.powerOn q).Inv := by
  refine ⟨⟨fun _ => rfl, nofun, nofun⟩, nofun, ⟨.inl rfl, ?_, nofun⟩, ⟨nofun, nofun⟩,
    fun h => absurd rfl h, ⟨nofun, fun _ => ⟨rfl, rfl, .inl rfl, nofun⟩⟩, ⟨nofun, nofun, nofun⟩,
    ?_, nofun, rfl, nofun⟩
  · simp [State.powerOn]
  · show -256 ≤ s16 0 ∧ s16 0 ≤ 7935
    decide

/-- Settles O41: power-on satisfies each clause whatever waits in RXQ, and reset is power-on
with no byte waiting. -/
theorem invariantAtReset : Obligations.InvariantAtReset :=
  ⟨State.powerOn_inv [], State.powerOn_inv⟩

/-- A core reset gives the clauses of power-on, under the build's own RX_CAP (R341). -/
theorem State.Inv.coreReset {s : State} (h : s.Inv) : s.coreReset.Inv := by
  obtain ⟨htm, hdl, hrw, hsu, hop, hok, hsig, ht, -, hpr, hdn⟩ := State.powerOn_inv s.rxq
  exact ⟨htm, nofun, hrw, hsu, hop, hok, hsig, ht, h.data.rxq, hpr, hdn⟩

/-- Settles O42: the start of a step keeps the invariant, and so does every agent's turn. -/
theorem invariantKeptByStep : Obligations.InvariantKeptByStep := by
  intro s t h hstep
  have hs := h.startStep
  rcases step_cases hstep with ⟨-, hc⟩ | ⟨_, -, hr⟩ | ⟨-, rfl⟩ | ⟨-, rfl⟩ | ⟨_, -, rfl⟩ |
    ⟨_, -, rfl⟩ | ⟨_, -, rfl⟩ | ⟨_, _, -, rfl⟩ | ⟨-, rfl⟩
  · exact coreTurn_keeps_inv hs s.startStep_done hc
  · exact rxTurn_keeps_inv hs hr
  · exact txdTurn_keeps_inv hs
  · exact timerTurn_keeps_inv hs
  · exact hs
  · exact hs
  · exact hs
  · exact hs
  · exact hs.coreReset

end Sys2Proof.Machine

/-! ## Proofs: what each agent's turn changes (10_state.md) -/

namespace Sys2Proof.Machine

/-! ### The turns of RX, TXD, TIMER and HOST -/

/-- What the turn `e` of an agent other than the core, and no core reset, does to a state (R20, R40, R42,
R43, R45): it writes at most the environment's fields, and each of these only in its own agent's turn. -/
structure State.EnvTurn (s : State) (e : Event) (t : State) : Prop where
  frame : t = { s with
    tmrExp := t.tmrExp, rxq := t.rxq, txq := t.txq, wire := t.wire, reqValid := t.reqValid,
    reqWord := t.reqWord, xportOk := t.xportOk, rdIdx := t.rdIdx, refusalMark := t.refusalMark }
  tmrExp : e ≠ .timer → t.tmrExp = s.tmrExp
  output : e ≠ .txd → t.txq = s.txq ∧ t.wire = s.wire
  rxq : (∀ b, e ≠ .rx b) → t.rxq = s.rxq
  request : (∀ w, e ≠ .hostRequest w) → t.reqValid = s.reqValid ∧ t.reqWord = s.reqWord

section
variable {s t : State} {e : Event} (h : s.EnvTurn e t)
include h

theorem State.EnvTurn.coreRegs : t.coreRegs = s.coreRegs := by rw [h.frame]; rfl
theorem State.EnvTurn.status : t.status = s.status := by rw [h.frame]
theorem State.EnvTurn.ok : t.ok = s.ok := by rw [h.frame]
theorem State.EnvTurn.done : t.done = s.done := by rw [h.frame]
theorem State.EnvTurn.reqRefused : t.reqRefused = s.reqRefused := by rw [h.frame]
theorem State.EnvTurn.strobes : t.strobes = s.strobes := by rw [h.frame]
theorem State.EnvTurn.tmr : t.tmr = s.tmr := by rw [h.frame]
theorem State.EnvTurn.tmrPolls : t.tmrPolls = s.tmrPolls := by rw [h.frame]

end

theorem rxTurn_env {b : Byte} {s t : State} (h : rxTurn b s = .next t) : s.EnvTurn (.rx b) t := by
  rcases rxTurn_cases b s with ⟨e, -⟩ | ⟨_, -, -, ⟨-, e⟩ | ⟨-, e⟩ | ⟨-, e⟩⟩ <;> rw [e] at h <;>
    cases h <;>
    exact ⟨rfl, fun _ => rfl, fun _ => ⟨rfl, rfl⟩, fun hb => absurd rfl (hb b), fun _ => ⟨rfl, rfl⟩⟩

theorem txdTurn_env (s : State) : s.EnvTurn .txd (txdTurn s) := by
  rcases txdTurn_cases s with ⟨-, e⟩ | ⟨_, _, -, e⟩ <;> rw [e] <;>
    exact ⟨rfl, fun _ => rfl, absurd rfl, fun _ => rfl, fun _ => ⟨rfl, rfl⟩⟩

theorem timerTurn_env (s : State) : s.EnvTurn .timer (timerTurn s) := by
  rcases timerTurn_cases s with ⟨-, e⟩ | ⟨-, e⟩ <;> rw [e] <;>
    exact ⟨rfl, absurd rfl, fun _ => ⟨rfl, rfl⟩, fun _ => rfl, fun _ => ⟨rfl, rfl⟩⟩

/-- Every turn but the core's and a core reset is a turn of the environment. -/
theorem turn_env {e : Event} {s t : State} (h : turn e s = .next t) (hc : e ≠ .core)
    (hr : e ≠ .hostReset) : s.EnvTurn e t := by
  cases e with
  | core => exact absurd rfl hc
  | hostReset => exact absurd rfl hr
  | rx b => exact rxTurn_env h
  | txd => cases h; exact txdTurn_env s
  | timer => cases h; exact timerTurn_env s
  | hostRequest w =>
    cases h
    exact ⟨rfl, fun _ => rfl, fun _ => ⟨rfl, rfl⟩, fun _ => rfl, fun hw => absurd rfl (hw w)⟩
  | hostXport _ | hostRead _ | hostWrite _ _ =>
    cases h
    exact ⟨rfl, fun _ => rfl, fun _ => ⟨rfl, rfl⟩, fun _ => rfl, fun _ => ⟨rfl, rfl⟩⟩

/-! ### A step, by the kind of its turn -/

@[simp] theorem State.startStep_coreRegs (s : State) : s.startStep.coreRegs = s.coreRegs := by
  simp [State.coreRegs]

/-- A step is the core's turn, a core reset, or a turn of the environment. -/
theorem step_kinds {s t : State} (h : step s = .next t) :
    (s.nextEvent = .core ∧ coreTurn s.startStep = .next t) ∨
    (s.nextEvent = .hostReset ∧ t = s.startStep.coreReset) ∨
    (s.nextEvent ≠ .core ∧ s.nextEvent ≠ .hostReset ∧ s.startStep.EnvTurn s.nextEvent t) := by
  unfold step at h
  by_cases hc : s.nextEvent = .core
  · rw [hc] at h
    exact .inl ⟨hc, h⟩
  · by_cases hr : s.nextEvent = .hostReset
    · rw [hr] at h
      cases h
      exact .inr (.inl ⟨hr, rfl⟩)
    · exact .inr (.inr ⟨hc, hr, turn_env h hc hr⟩)

/-- A step that is no core reset and changes a value of the core registers is the core's turn. -/
theorem coreTurn_of_register_changed {α : Type} (f : CoreRegs → α) {s t : State}
    (hr : s.nextEvent ≠ .hostReset) (h : step s = .next t) (hf : f t.coreRegs ≠ f s.coreRegs) :
    s.nextEvent = .core ∧ coreTurn s.startStep = .next t := by
  rcases step_kinds h with hcore | ⟨hr', -⟩ | ⟨-, -, henv⟩
  · exact hcore
  · exact absurd hr' hr
  · exact absurd (congrArg f (henv.coreRegs.trans s.startStep_coreRegs)) hf

/-! ### What the core's operations leave unchanged -/

/-- A GET_DATA poll iteration writes no VER, BEGUN, output queue or port (R144). -/
theorem pollGetData_frame (s : State) :
    pollGetData s = { s with
      tmrPolls := s.tmrPolls + 1, frame := s.nextFrame, rxq := s.rxq.tail,
      strobes := s.strobes.pop s.rxq, dist := (pollGetData s).dist, flux := (pollGetData s).flux,
      temp := (pollGetData s).temp, status := (pollGetData s).status, ok := (pollGetData s).ok,
      tmr := (pollGetData s).tmr, phase := (pollGetData s).phase,
      done := (pollGetData s).done } := by
  rcases pollGetData_outcomes s with ⟨-, -, e⟩ | ⟨-, -, e⟩ | ⟨-, -, e⟩ | ⟨-, -, e⟩ <;> rw [e]

/-- A SEND_COMMAND poll iteration writes no measurement, BEGUN, output queue or port (R202). -/
theorem pollSend_frame (s : State) :
    pollSend s = { s with
      tmrPolls := s.tmrPolls + 1, reply := s.nextReply, rxq := s.rxq.tail,
      strobes := s.strobes.pop s.rxq, ver := (pollSend s).ver, status := (pollSend s).status,
      ok := (pollSend s).ok, tmr := (pollSend s).tmr, phase := (pollSend s).phase,
      done := (pollSend s).done } := by
  rcases pollSend_outcomes s with ⟨-, -, -, e⟩ | ⟨-, -, -, -, -, e⟩ | ⟨-, -, -, -, e⟩ |
    ⟨-, -, e⟩ | ⟨-, -, e⟩ | ⟨-, -, e⟩ <;> rw [e]

/-- A BEGIN poll iteration writes BEGUN, the outcome and the timer only (R261). -/
theorem pollBegin_frame (s : State) :
    pollBegin s = { s with
      tmrPolls := s.tmrPolls + 1, begun := (pollBegin s).begun, status := (pollBegin s).status,
      ok := (pollBegin s).ok, tmr := (pollBegin s).tmr, phase := (pollBegin s).phase,
      done := (pollBegin s).done } := by
  rcases pollBegin_outcomes s with ⟨-, e⟩ | ⟨-, -, e⟩ | ⟨-, -, e⟩ <;> rw [e]

/-- What every poll iteration leaves unchanged, the count apart: the output queue and the port (R47). -/
structure State.PollFrame (s t : State) : Prop where
  txq : t.txq = s.txq
  wire : t.wire = s.wire
  tmrPolls : t.tmrPolls = s.tmrPolls + 1
  reqValid : t.reqValid = s.reqValid
  reqWord : t.reqWord = s.reqWord
  reqRefused : t.reqRefused = s.reqRefused

theorem poll_keeps {s : State} (hp : s.phase ≠ .idle) : s.PollFrame (poll s) := by
  cases h : s.phase with
  | idle => exact absurd h hp
  | gdSync =>
    rw [poll, h, pollGetData_frame]
    exact ⟨rfl, rfl, rfl, rfl, rfl, rfl⟩
  | scSync =>
    rw [poll, h, pollSend_frame]
    exact ⟨rfl, rfl, rfl, rfl, rfl, rfl⟩
  | bgSettle =>
    rw [poll, h, pollBegin_frame]
    exact ⟨rfl, rfl, rfl, rfl, rfl, rfl⟩

/-- An acceptance step writes no measurement register and no VER (R142, R196, R260). -/
theorem acceptRequest_keeps_results {s t : State} (hp : s.phase = .idle)
    (h : acceptRequest s = .next t) :
    (t.dist = s.dist ∧ t.flux = s.flux ∧ t.temp = s.temp) ∧ t.ver = s.ver := by
  rcases acceptRequest_cases hp h with ⟨r, rfl⟩ | ⟨-, rfl⟩ | ⟨-, -, rfl⟩ | ⟨-, -, rfl⟩
  · simp
  · rw [acceptBegin_eq]
    split <;> simp
  · simp [acceptGetData_eq]
  · rw [acceptSend_eq]
    split <;> simp

/-! ### Completions -/

/-- The step to `t` ends in `complete`, or leaves done, STATUS and OK as `s` has them (R256). -/
def State.CompletesOrKeeps (s t : State) : Prop :=
  (∃ r st, t = State.complete r st) ∨ t.done = s.done ∧ t.status = s.status ∧ t.ok = s.ok

theorem acceptBegin_completesOrKeeps (s : State) : s.CompletesOrKeeps (acceptBegin s) := by
  cases hx : s.xportOk with
  | false => exact .inl ⟨_, _, acceptBegin_of_closed hx⟩
  | true =>
    rw [acceptBegin_eq, if_pos hx]
    exact .inr ⟨rfl, rfl, rfl⟩

theorem acceptGetData_completesOrKeeps (s : State) : s.CompletesOrKeeps (acceptGetData s) := by
  rw [acceptGetData_eq]
  exact .inr ⟨rfl, rfl, rfl⟩

theorem acceptSend_completesOrKeeps (cmd : CmdWord) (p : Param) (s : State) :
    s.CompletesOrKeeps (acceptSend cmd p s) := by
  by_cases h0 : cmdRl cmd = 0
  · exact .inl ⟨_, _, acceptSend_of_noReply p s h0⟩
  · rw [acceptSend_eq, if_neg h0]
    exact .inr ⟨rfl, rfl, rfl⟩

theorem acceptRequest_completesOrKeeps {s t : State} (hp : s.phase = .idle)
    (h : acceptRequest s = .next t) : s.CompletesOrKeeps t := by
  rcases acceptRequest_cases hp h with ⟨r, rfl⟩ | ⟨-, rfl⟩ | ⟨-, -, rfl⟩ | ⟨-, -, rfl⟩
  · exact .inr ⟨rfl, rfl, rfl⟩
  · exact acceptBegin_completesOrKeeps s.takeRequest
  · exact acceptGetData_completesOrKeeps s.takeRequest
  · exact acceptSend_completesOrKeeps _ _ s.takeRequest

theorem pollGetData_completesOrKeeps (s : State) : s.CompletesOrKeeps (pollGetData s) := by
  rcases pollGetData_cases s with ⟨-, -, e⟩ | ⟨-, -, e⟩ | ⟨-, -, e⟩ | ⟨-, -, e⟩ <;> rw [e]
  · exact .inl ⟨_, _, rfl⟩
  · exact .inl ⟨_, _, rfl⟩
  · exact .inl ⟨_, _, rfl⟩
  · exact .inr (by simp)

theorem postProcess_completes (s : State) : ∃ r st, s.postProcess = State.complete r st := by
  rcases postProcess_cases s with ⟨-, e⟩ | ⟨-, -, -, e⟩ | ⟨-, -, e⟩ <;> exact ⟨_, _, e⟩

theorem pollSend_completesOrKeeps (s : State) : s.CompletesOrKeeps (pollSend s) := by
  rcases pollSend_cases s with ⟨-, -, e⟩ | ⟨-, -, e⟩ | ⟨-, -, e⟩ | ⟨-, -, e⟩ <;> rw [e]
  · exact .inl (postProcess_completes _)
  · exact .inl ⟨_, _, rfl⟩
  · exact .inl ⟨_, _, rfl⟩
  · exact .inr (by simp)

theorem pollBegin_completesOrKeeps (s : State) : s.CompletesOrKeeps (pollBegin s) := by
  rcases pollBegin_cases s with ⟨-, e⟩ | ⟨-, -, e⟩ | ⟨-, -, e⟩ <;> rw [e]
  · exact .inr ⟨rfl, rfl, rfl⟩
  · exact .inl ⟨_, _, rfl⟩
  · exact .inl ⟨_, _, rfl⟩

/-- The core reports an event by `complete` only (R256, R300). -/
theorem coreTurn_completesOrKeeps {s t : State} (h : coreTurn s = .next t) :
    s.CompletesOrKeeps t := by
  rcases coreTurn_cases h with ⟨-, -, rfl⟩ | ⟨hp, -, ha⟩ | ⟨-, rfl⟩ | ⟨-, rfl⟩ | ⟨-, rfl⟩
  · exact .inr ⟨rfl, rfl, rfl⟩
  · exact acceptRequest_completesOrKeeps hp ha
  · exact pollGetData_completesOrKeeps s
  · exact pollSend_completesOrKeeps s
  · exact pollBegin_completesOrKeeps s

/-! ### The registers a completion writes -/

/-- The statuses of a decoded frame (R151, R301). -/
theorem override_cases (dist flux : Word16) :
    override dist flux = .ready ∨ override dist flux = .weakSignal ∨
      override dist flux = .strongSignal ∨ override dist flux = .floodSignal := by
  unfold override
  split
  · simp
  · split
    · simp
    · split <;> simp

/-- The core's turn changes the measurement registers only by decoding a valid frame (R149, R152). -/
theorem coreTurn_writes_measurement {s t : State} (h : coreTurn s = .next t)
    (hm : ¬ (t.dist = s.dist ∧ t.flux = s.flux ∧ t.temp = s.temp)) :
    s.phase = .gdSync ∧ t.done = true ∧ frameValid t.frame = true ∧ headerMatch t.frame = true ∧
      t.status = override t.dist t.flux := by
  rcases coreTurn_cases h with ⟨-, -, rfl⟩ | ⟨hp, -, ha⟩ | ⟨hp, rfl⟩ | ⟨-, rfl⟩ | ⟨-, rfl⟩
  · simp at hm
  · exact absurd (acceptRequest_keeps_results hp ha).1 hm
  · rcases pollGetData_outcomes s with ⟨hh, hv, e⟩ | ⟨-, -, e⟩ | ⟨-, -, e⟩ | ⟨-, -, e⟩ <;>
      rw [e] at hm ⊢
    · exact ⟨hp, rfl, hv, hh, rfl⟩
    · simp at hm
    · simp at hm
    · simp at hm
  · rw [pollSend_frame] at hm
    simp at hm
  · rw [pollBegin_frame] at hm
    simp at hm

/-- The core's turn changes VER only by completing a version query with READY (R206). -/
theorem coreTurn_writes_ver {s t : State} (h : coreTurn s = .next t) (hv : t.ver ≠ s.ver) :
    s.phase = .scSync ∧ s.curCmd = s.cfg.table.getFirmwareVersion ∧ t.done = true ∧
      t.status = .ready ∧ t.ver = #v[t.reply[3], t.reply[4], t.reply[5]] := by
  rcases coreTurn_cases h with ⟨-, -, rfl⟩ | ⟨hp, -, ha⟩ | ⟨-, rfl⟩ | ⟨hp, rfl⟩ | ⟨-, rfl⟩
  · exact absurd rfl hv
  · exact absurd (acceptRequest_keeps_results hp ha).2 hv
  · rw [pollGetData_frame] at hv
    exact absurd rfl hv
  · rcases pollSend_outcomes s with ⟨-, -, hc, e⟩ | ⟨-, -, -, -, -, e⟩ | ⟨-, -, -, -, e⟩ |
      ⟨-, -, e⟩ | ⟨-, -, e⟩ | ⟨-, -, e⟩ <;> rw [e] at hv ⊢
    · exact ⟨hp, hc, rfl, rfl, rfl⟩
    all_goals exact absurd rfl hv
  · rw [pollBegin_frame] at hv
    exact absurd rfl hv

/-- The core's turn leaves BEGUN, or sets it by one of the two completions of a BEGIN (R260, R261,
R262). -/
theorem coreTurn_begun {s t : State} (h : coreTurn s = .next t) :
    t.begun = s.begun ∨
    t.begun = true ∧ t.done = true ∧
      (s.phase = .bgSettle ∧ s.tmrExp = true ∧
          t.status = (if s.rxq = [] then .serialError else .ready) ∨
        s.phase = .idle ∧ s.reqValid = true ∧
          (∃ p cmd, decode s.cfg.table s.reqWord = .ok (.beginOp p cmd)) ∧
          s.xportOk = false ∧ t.status = .serialError) := by
  rcases coreTurn_cases h with ⟨-, -, rfl⟩ | ⟨hp, hv, -⟩ | ⟨-, rfl⟩ | ⟨-, rfl⟩ | ⟨hp, rfl⟩
  · exact .inl rfl
  · rcases accept_outcomes h hp hv with ⟨_, rfl⟩ | ⟨-, -, rfl⟩ | ⟨hx, hd, rfl⟩ | ⟨-, -, rfl⟩ |
      ⟨_, _, -, -, -, -, -, -, rfl⟩ | ⟨_, _, -, -, -, -, -, -, rfl⟩
    · exact .inl rfl
    · exact .inl rfl
    · exact .inr ⟨rfl, rfl, .inr ⟨hp, hv, hd, hx, rfl⟩⟩
    all_goals exact .inl rfl
  · rw [pollGetData_frame]
    exact .inl rfl
  · rw [pollSend_frame]
    exact .inl rfl
  · rcases pollBegin_outcomes s with ⟨-, e⟩ | ⟨hx, hq, e⟩ | ⟨hx, hq, e⟩ <;> rw [e]
    · exact .inl rfl
    · exact .inr ⟨rfl, rfl, .inl ⟨hp, hx, (if_neg hq).symm⟩⟩
    · exact .inr ⟨rfl, rfl, .inl ⟨hp, hx, (if_pos hq).symm⟩⟩

/-! ### The transport queues -/

/-- TXD's turn moves a byte from TXQ to WIRE, which keeps their order (R42). -/
theorem txdTurn_output (s : State) :
    s.wire <+: (txdTurn s).wire ∧ (txdTurn s).wire ++ (txdTurn s).txq = s.wire ++ s.txq := by
  rcases txdTurn_cases s with ⟨-, e⟩ | ⟨b, q, hq, e⟩
  · simp [e]
  · simp [e, hq]

/-- The core's turn leaves WIRE, and it leaves TXQ unless it accepts the SEND_COMMAND at the port, whose
packet replaces TXQ (R46, R197). -/
theorem coreTurn_output {s t : State} (h : coreTurn s = .next t) :
    t.wire = s.wire ∧
    (t.txq = s.txq ∨
      s.phase = .idle ∧ s.reqValid = true ∧
        decode s.cfg.table s.reqWord =
          .ok (Instr.ofSend s.cfg.table (reqCmd s.reqWord) (reqParam s.reqWord)) ∧
        CmdWord.WellFormed (reqCmd s.reqWord) ∧ t.curCmd = reqCmd s.reqWord ∧
        t.txq = (encodePacket s.cfg.table (reqCmd s.reqWord) (reqParam s.reqWord)).packet ∧
        t.strobes.txFlush = true ∧ t.strobes.txWrite = true ∧ t.strobes.txData = t.txq) := by
  by_cases hp : s.phase = .idle
  · cases hv : s.reqValid with
    | false =>
      simp only [coreTurn, hp, hv, if_true] at h
      cases h
      exact ⟨rfl, .inl rfl⟩
    | true =>
      rcases accept_outcomes h hp hv with ⟨_, rfl⟩ | ⟨-, -, rfl⟩ | ⟨-, -, rfl⟩ | ⟨-, -, rfl⟩ |
        ⟨_, _, rfl, rfl, hd, -, hw, -, rfl⟩ | ⟨_, _, rfl, rfl, hd, -, hw, -, rfl⟩
      · exact ⟨rfl, .inl rfl⟩
      · exact ⟨rfl, .inl rfl⟩
      · exact ⟨rfl, .inl rfl⟩
      · exact ⟨rfl, .inl rfl⟩
      · exact ⟨rfl, .inr ⟨hp, rfl, hd, hw, rfl, rfl, rfl, rfl, rfl⟩⟩
      · exact ⟨rfl, .inr ⟨hp, rfl, hd, hw, rfl, rfl, rfl, rfl, rfl⟩⟩
  · rw [coreTurn_busy hp] at h
    cases h
    exact ⟨(poll_keeps hp).wire, .inl (poll_keeps hp).txq⟩

/-- A search pops the oldest waiting byte, if there is one, with rx_pop (R41). -/
theorem search_pops (q : List Byte) (o : Strobes) :
    (q.tail = q ∧ o.pop q = o ∧ q = []) ∨
    (o.pop q = { o with rxPop := true } ∧ ∃ b, q = b :: q.tail) := by
  cases q with
  | nil => exact .inl ⟨rfl, if_pos rfl, rfl⟩
  | cons b q => exact .inr ⟨if_neg nofun, b, rfl⟩

/-- What a poll iteration does to RXQ, and what it drives (R41, R46). -/
theorem poll_rxq {s : State} (hp : s.phase ≠ .idle) :
    ((poll s).rxq = s.rxq ∧ (poll s).strobes = s.strobes ∧ (s.phase = .bgSettle ∨ s.rxq = [])) ∨
    (s.phase ≠ .bgSettle ∧ (poll s).strobes = { s.strobes with rxPop := true } ∧
      ∃ b, s.rxq = b :: (poll s).rxq) := by
  cases h : s.phase with
  | idle => exact absurd h hp
  | gdSync =>
    rw [poll, h, pollGetData_frame]
    rcases search_pops s.rxq s.strobes with ⟨ht, ho, hq⟩ | ⟨ho, hb⟩
    · exact .inl ⟨ht, ho, .inr hq⟩
    · exact .inr ⟨nofun, ho, hb⟩
  | scSync =>
    rw [poll, h, pollSend_frame]
    rcases search_pops s.rxq s.strobes with ⟨ht, ho, hq⟩ | ⟨ho, hb⟩
    · exact .inl ⟨ht, ho, .inr hq⟩
    · exact .inr ⟨nofun, ho, hb⟩
  | bgSettle =>
    rw [poll, h, pollBegin_frame]
    exact .inl ⟨rfl, rfl, .inl rfl⟩

/-! ### The obligations about every step -/

/-- Settles O3. -/
theorem stepIsTheAgentsTurn : Obligations.StepIsTheAgentsTurn :=
  fun _ _ _ => step_of_sched

/-- Settles O49: the turn is one of the environment, from the start of the step. -/
theorem otherAgentsLeaveCoreAlone : Obligations.OtherAgentsLeaveCoreAlone := by
  intro s t hc hr h
  have henv : s.startStep.EnvTurn s.nextEvent t := turn_env h hc hr
  exact ⟨by simp [henv.coreRegs], by simp [henv.strobes], by simp [henv.tmr],
    by simp [henv.tmrPolls], fun he => by simp [henv.tmrExp he], fun he => by simp [henv.output he],
    fun he => by simp [henv.rxq he]⟩

/-- Settles O12: a busy core polls and reads no port, a core reset keeps the port, and of the
environment's turns only the host's own writes it. -/
theorem requestHeldWhileBusy : Obligations.RequestHeldWhileBusy := by
  intro s t hp h hw
  rcases step_kinds h with ⟨-, hc⟩ | ⟨-, rfl⟩ | ⟨-, -, henv⟩
  · have hp' : s.startStep.phase ≠ .idle := by simpa using hp
    rw [coreTurn_busy hp'] at hc
    cases hc
    have hk := poll_keeps hp'
    exact ⟨by simp [hk.reqValid], by simp [hk.reqWord], by simp [hk.reqRefused]⟩
  · exact ⟨by simp, by simp, rfl⟩
  · obtain ⟨hv, hword⟩ := henv.request hw
    exact ⟨by simp [hv], by simp [hword], by simp [henv.reqRefused]⟩

/-- Settles O46: the core's turn completes or keeps the outcome, and the environment does not write
it. -/
theorem statusWrittenByCompletionOnly : Obligations.StatusWrittenByCompletionOnly := by
  intro s t hr h
  rcases step_kinds h with ⟨-, hc⟩ | ⟨hr', -⟩ | ⟨-, -, henv⟩
  · rcases coreTurn_completesOrKeeps hc with ⟨r, st, rfl⟩ | ⟨hd, hst, hok⟩
    · exact ⟨fun _ => ⟨rfl, rfl, rfl⟩, nofun⟩
    · rw [s.startStep_done] at hd
      exact ⟨by simp [hd], fun _ => ⟨by simp [hst], by simp [hok]⟩⟩
  · exact absurd hr' hr
  · exact ⟨by simp [henv.done], fun _ => ⟨by simp [henv.status], by simp [henv.ok]⟩⟩

/-- Settles O47: the step is the core's turn, which writes the measurement by decoding a valid frame
only. -/
theorem measurementWrittenByValidFrameOnly : Obligations.MeasurementWrittenByValidFrameOnly := by
  intro s t hr h hm
  have hchanged : ¬ (t.dist = s.dist ∧ t.flux = s.flux ∧ t.temp = s.temp) := by tauto
  obtain ⟨he, hc⟩ := coreTurn_of_register_changed (fun r => (r.dist, r.flux, r.temp)) hr h
    (by simpa [State.coreRegs] using hchanged)
  obtain ⟨hp, hd, hv, hh, hst⟩ := coreTurn_writes_measurement hc (by simpa using hchanged)
  obtain ⟨h0, h1⟩ := (headerMatch_iff _).1 hh
  exact ⟨he, by simpa using hp, hd, hv, h0, h1, hst ▸ override_cases _ _⟩

/-- Settles O48: the step is the core's turn, which writes VER by completing a version query only. -/
theorem versionWrittenByQueryOnly : Obligations.VersionWrittenByQueryOnly := by
  intro s t hr h hv
  obtain ⟨he, hc⟩ := coreTurn_of_register_changed CoreRegs.ver hr h hv
  have hw := coreTurn_writes_ver hc (by simpa using hv)
  simp only [State.startStep_phase, State.startStep_curCmd, State.startStep_cfg] at hw
  exact ⟨he, hw⟩

/-- Settles O53: a busy core's turn is one poll iteration, from the start of the step, where no strobe is
driven. -/
theorem pollPopsAtMostOneByte : Obligations.PollPopsAtMostOneByte := by
  intro s t rest hs hp h
  have hp' : s.startStep.phase ≠ .idle := by simpa using hp
  rw [step, State.nextEvent_of_sched hs, turn, coreTurn_busy hp'] at h
  cases h
  have hk := poll_keeps hp'
  have hq := poll_rxq hp'
  simp only [State.startStep_rxq, State.startStep_strobes, State.startStep_phase] at hq
  exact ⟨hq, by simp [hk.txq], by simp [hk.wire], by simp [hk.tmrPolls]⟩

/-- Settles O54: the core sends nothing but by accepting a SEND_COMMAND, TXD keeps the order, and no other
turn touches the output. -/
theorem outputStaysInOrder : Obligations.OutputStaysInOrder := by
  intro s t h
  rcases step_kinds h with ⟨he, hc⟩ | ⟨-, rfl⟩ | ⟨-, -, henv⟩
  · have ho := coreTurn_output hc
    simp only [State.startStep_wire, State.startStep_txq, State.startStep_phase,
      State.startStep_reqValid, State.startStep_cfg, State.startStep_reqWord] at ho
    obtain ⟨hw, hq | ⟨hp, hv, hsend⟩⟩ := ho
    · exact ⟨by rw [hw], .inl (by rw [hw, hq])⟩
    · exact ⟨by rw [hw], .inr ⟨he, hp, hv, hw, hsend⟩⟩
  · simp
  · by_cases ht : s.nextEvent = .txd
    · rw [step, ht] at h
      cases h
      obtain ⟨hpre, happ⟩ := txdTurn_output s.startStep
      exact ⟨by simpa using hpre, .inl (by simpa using happ)⟩
    · obtain ⟨hq, hw⟩ := henv.output ht
      exact ⟨by simp [hw], .inl (by simp [hq, hw])⟩

/-- Settles O57: a step that changes BEGUN is the core's turn, which changes it by a BEGIN's completion
only. -/
theorem begunSetByBeginOnly : Obligations.BegunSetByBeginOnly := by
  intro s t hr h
  by_cases hb : t.begun = s.begun
  · exact ⟨fun hs => hb.trans hs, fun hs ht => absurd (hb.symm.trans ht) (by simp [hs])⟩
  · obtain ⟨he, hc⟩ := coreTurn_of_register_changed CoreRegs.begun hr h hb
    have hset := coreTurn_begun hc
    simp only [State.startStep_begun, State.startStep_phase, State.startStep_tmrExp,
      State.startStep_rxq, State.startStep_reqValid, State.startStep_cfg,
      State.startStep_reqWord, State.startStep_xportOk] at hset
    obtain hkeep | ⟨ht, hd, hend⟩ := hset
    · exact absurd hkeep hb
    · exact ⟨fun _ => ht, fun _ _ => ⟨he, hd, hend⟩⟩

/-! ### The obligations about one agent's turn -/

/-- Settles O50, by the cases of an arrival and of TXD's turn. -/
theorem transportTurns : Obligations.TransportTurns := by
  intro s rest u
  refine ⟨fun b hs => ?_, fun hs => ?_⟩ <;> rw [step_of_sched hs, turn]
  · rcases rxTurn_cases b u with ⟨e, hroom⟩ | ⟨cap, hcap, hfull, hcases⟩
    · refine ⟨fun _ => e, fun cap hcap hfull => ?_⟩
      exact absurd (hroom cap hcap) (Nat.not_lt.2 hfull)
    · refine ⟨fun hroom => absurd (hroom cap hcap) (Nat.not_lt.2 hfull), fun cap' hcap' _ => ?_⟩
      cases Option.mem_unique hcap hcap'
      have hcfg : u.cfg = s.cfg := rfl
      rcases hcases with ⟨hf, e⟩ | ⟨hf, e⟩ | ⟨hf, e⟩ <;> rw [hcfg] at hf <;> rw [hf] <;> exact e
  · rcases txdTurn_cases u with ⟨hq, e⟩ | ⟨b, q, hq, e⟩
    · refine ⟨fun _ => congrArg _ e, fun b q hq' => ?_⟩
      cases hq.symm.trans hq'
    · refine ⟨fun hq' => ?_, fun b' q' hq' => ?_⟩
      · cases hq.symm.trans hq'
      · cases hq.symm.trans hq'
        exact congrArg _ e

/-- Settles O51: TIMER is enabled exactly as R43 says. -/
theorem timerTurnExpires : Obligations.TimerTurnExpires := by
  intro s rest hs
  rw [step_of_sched hs, turn]
  rcases timerTurn_cases
    { s with sched := rest, done := false, reqRefused := false, strobes := {} } with
    ⟨hen, e⟩ | ⟨hen, e⟩ <;> rw [e]
  · rw [if_pos ((timerEnabled_iff _).1 hen)]
  · rw [if_neg fun hr => Bool.eq_false_iff.1 hen ((timerEnabled_iff _).2 hr)]

/-- Settles O59: each of the host's turns writes its one port, and the read view does not depend on what
the start of a step writes. -/
theorem hostReadViewAccess : Obligations.HostReadViewAccess := by
  intro s rest
  refine ⟨fun idx hs => ?_, fun idx v hs => step_of_sched hs, fun w hs => step_of_sched hs,
    fun isOpen hs => step_of_sched hs⟩
  have e := step_of_sched hs
  refine ⟨e, fun t ht => ?_⟩
  cases e.symm.trans ht
  rfl

end Sys2Proof.Machine

/-! ## Proofs: the host read view (20_memory.md) -/

namespace Sys2Proof.Machine

/-! ### The bytes of the read view, by the ranges of R76 -/

/-- A 16-bit register is read back from its two bytes, low byte first (R9, R76). -/
theorem hiByte_append_loByte (u : Word16) : hiByte u ++ loByte u = u := by
  have hjoin : hiByte u ++ loByte u = u.extractLsb' 0 (8 + 8) :=
    BitVec.extractLsb'_append_extractLsb'_eq_extractLsb' rfl
  exact hjoin.trans BitVec.extractLsb'_eq_self

theorem State.readByte_status (s : State) : s.readByte 0x00 = 0#4 ++ s.status.code :=
  BitVec.setWidth_eq_append (x := s.status.code) (w := 8) (by decide)

/-- BUSY is spelled as the test it makes (R23). -/
theorem State.readByte_flags (s : State) :
    s.readByte 0x01 =
      s.mode.code ++ s.phase.code ++ BitVec.ofBool s.begun ++ BitVec.ofBool s.opened ++
        BitVec.ofBool (decide (s.phase ≠ .idle)) ++ BitVec.ofBool s.ok := by
  have hbusy : s.busy = decide (s.phase ≠ .idle) := (decide_not ..).symm
  rw [← hbusy]
  rfl

theorem State.readByte_dist (s : State) : s.readByte 0x03 ++ s.readByte 0x02 = s.dist :=
  hiByte_append_loByte s.dist

theorem State.readByte_flux (s : State) : s.readByte 0x05 ++ s.readByte 0x04 = s.flux :=
  hiByte_append_loByte s.flux

theorem State.readByte_temp (s : State) : s.readByte 0x07 ++ s.readByte 0x06 = s.temp :=
  hiByte_append_loByte s.temp

theorem State.readByte_frame (s : State) (i : Nat) (h : i < 9) :
    s.readByte (BitVec.ofNat 8 (0x08 + i)) = s.frame[i] := by
  have hi : (BitVec.ofNat 8 (0x08 + i)).toNat = 0x08 + i := Nat.mod_eq_of_lt (by omega)
  simp (disch := omega) only [State.readByte, hi, if_neg, if_pos]
  simp [h]

theorem State.readByte_ver (s : State) (i : Nat) (h : i < 3) :
    s.readByte (BitVec.ofNat 8 (0x12 + i)) = s.ver[i] := by
  have hi : (BitVec.ofNat 8 (0x12 + i)).toNat = 0x12 + i := Nat.mod_eq_of_lt (by omega)
  simp (disch := omega) only [State.readByte, hi, if_neg, if_pos]
  simp [h]

/-- From 0x15 on a byte is reserved below 0x20 and a look-up in REPLY from there (R76). -/
theorem State.readByte_from_ver_end (s : State) {idx : Byte} (h : 0x15 ≤ idx.toNat) :
    s.readByte idx = if idx.toNat < 0x20 then 0 else s.reply.toList.getD (idx.toNat - 0x20) 0 := by
  simp (disch := omega) only [State.readByte, if_neg]

theorem State.readByte_reply (s : State) (i : Nat) (h : i < 11) :
    s.readByte (BitVec.ofNat 8 (0x20 + i)) = s.reply[i] := by
  have hi : (BitVec.ofNat 8 (0x20 + i)).toNat = 0x20 + i := Nat.mod_eq_of_lt (by omega)
  rw [State.readByte_from_ver_end s (by omega), hi, if_neg (by omega)]
  simp [h]

theorem State.readByte_between_ver_and_reply (s : State) {idx : Byte} (h : 0x15 ≤ idx.toNat)
    (h' : idx.toNat ≤ 0x1F) : s.readByte idx = 0 := by
  rw [State.readByte_from_ver_end s h, if_pos (by omega)]

theorem State.readByte_past_reply (s : State) {idx : Byte} (h : 0x2B ≤ idx.toNat) :
    s.readByte idx = 0 := by
  rw [State.readByte_from_ver_end s (by omega), if_neg (by omega)]
  exact List.getD_eq_default _ _ (by simp; omega)

theorem State.mode_eq (s : State) :
    s.mode = if s.begun = false then .uninitialized
      else if s.status = .ready then .ready else .degraded := by
  simp [State.mode]

/-- Settles O58, range by range; the code tables are the definitions' own values. -/
theorem readViewContents : Obligations.ReadViewContents := fun s =>
  ⟨s.readByte_status, s.readByte_flags, s.readByte_dist, s.readByte_flux, s.readByte_temp,
    s.readByte_frame, rfl, s.readByte_ver, fun _ => s.readByte_between_ver_and_reply,
    s.readByte_reply, fun _ => s.readByte_past_reply, s.mode_eq, rfl, rfl, rfl⟩

end Sys2Proof.Machine

/-! ## Proofs: the encodings (30_encoding.md) -/

namespace Sys2Proof.Machine

/-! ### The five forms of a request -/

/-- A request is BEGIN, GET_DATA, SEND_COMMAND by name, SEND_COMMAND with a word, or the reserved
encoding: the case analysis that treats the 15 named commands at once. -/
theorem instrForms {motive : Instr → Prop} (beginOp : ∀ p c, motive (.beginOp p c))
    (getData : ∀ p c, motive (.getData p c)) (named : ∀ c p, motive (Instr.named c p))
    (sendGeneric : ∀ c p, motive (.sendGeneric c p)) (reservedOp0 : ∀ r, motive (.reservedOp0 r))
    (i : Instr) : motive i := by
  cases i with
  | beginOp p c => exact beginOp p c
  | getData p c => exact getData p c
  | sendGeneric c p => exact sendGeneric c p
  | reservedOp0 r => exact reservedOp0 r
  | getFirmwareVersion p => exact named .getFirmwareVersion p
  | triggerDetection p => exact named .triggerDetection p
  | softReset p => exact named .softReset p
  | hardReset p => exact named .hardReset p
  | saveSettings p => exact named .saveSettings p
  | setFrameRate p => exact named .setFrameRate p
  | setBaudRate p => exact named .setBaudRate p
  | standardFormatCm p => exact named .standardFormatCm p
  | standardFormatMm p => exact named .standardFormatMm p
  | pixhawkFormat p => exact named .pixhawkFormat p
  | enableOutput p => exact named .enableOutput p
  | disableOutput p => exact named .disableOutput p
  | setI2cAddress p => exact named .setI2cAddress p
  | setSerialMode p => exact named .setSerialMode p
  | setI2cMode p => exact named .setI2cMode p

/-! ### SEND_COMMAND by its word -/

/-- In a table of distinct words the word of a name stands for that name (R8, R100). -/
theorem ofSend_word {t : CmdTable} (h : t.Distinct) (c : Cmd) (p : Param) :
    Instr.ofSend t (t.word c) p = Instr.named c p := by
  simp [Instr.ofSend, CmdTable.find?_word h]

/-- A word that no name has is generic (R101). -/
theorem ofSend_generic {t : CmdTable} {cmd : CmdWord} (h : t.find? cmd = none) (p : Param) :
    Instr.ofSend t cmd p = .sendGeneric cmd p := by
  simp [Instr.ofSend, h]

/-- Whatever the decoder makes of SEND_COMMAND has a word, and it is the word read (R100, R101). -/
theorem encode_ofSend (t : CmdTable) (cmd : CmdWord) (p : Param) :
    Instr.Encodable t (Instr.ofSend t cmd p) ∧
      encode t (Instr.ofSend t cmd p) = packReq cmd p 3 := by
  cases h : t.find? cmd with
  | none =>
    rw [ofSend_generic h]
    exact ⟨h, rfl⟩
  | some c =>
    simp only [Instr.ofSend, h]
    exact ⟨encodable_named t c p, by rw [encode_named, CmdTable.find?_some h]⟩

/-! ### The decoder on each form of word, and what a decoded word was -/

@[simp] theorem decode_packReq_begin (t : CmdTable) (cmd : CmdWord) (p : Param) :
    decode t (packReq cmd p 1) = .ok (.beginOp p cmd) := by
  simp [decode]

@[simp] theorem decode_packReq_getData (t : CmdTable) (cmd : CmdWord) (p : Param) :
    decode t (packReq cmd p 2) = .ok (.getData p cmd) := by
  simp [decode]

@[simp] theorem decode_packReq_send (t : CmdTable) (cmd : CmdWord) (p : Param) :
    decode t (packReq cmd p 3) = .ok (Instr.ofSend t cmd p) := by
  simp [decode]

@[simp] theorem decode_reserved (t : CmdTable) (r : BitVec 62) :
    decode t (r ++ 0#2) = .ok (.reservedOp0 r) := by
  have hrest : (r ++ 0#2).extractLsb' 2 62 = r := BitVec.extractLsb'_append_eq_left
  simp [decode, hrest]

/-- Everything a word that decodes can be: one test of OP after the other, as R252 orders them. -/
theorem decode_cases {t : CmdTable} {w : ReqWord} {i : Instr} (h : decode t w = .ok i) :
    (reqOp w = 0 ∧ i = .reservedOp0 (w.extractLsb' 2 62)) ∨
    (reqRsv w = 0 ∧ reqOp w = 1 ∧ i = .beginOp (reqParam w) (reqCmd w)) ∨
    (reqRsv w = 0 ∧ reqOp w = 2 ∧ i = .getData (reqParam w) (reqCmd w)) ∨
    (reqRsv w = 0 ∧ reqOp w = 3 ∧ i = Instr.ofSend t (reqCmd w) (reqParam w)) := by
  have hlast : ∀ op : BitVec 2, op ≠ 0 → op ≠ 1 → op ≠ 2 → op = 3 := by decide
  unfold decode at h
  split_ifs at h with h0 hrsv h1 h2 <;> cases h
  · exact .inl ⟨h0, rfl⟩
  · exact .inr (.inl ⟨not_not.1 hrsv, h1, rfl⟩)
  · exact .inr (.inr (.inl ⟨not_not.1 hrsv, h2, rfl⟩))
  · exact .inr (.inr (.inr ⟨not_not.1 hrsv, hlast _ h0 h1 h2, rfl⟩))

/-- Settles O8, form by form: the fields of a packed word are read back, and the word of a name is
found in a table of distinct words. -/
theorem decodeOfEncodeIsIdentity : Obligations.DecodeOfEncodeIsIdentity := by
  intro t i hdistinct henc
  induction i using instrForms with
  | beginOp p c => exact decode_packReq_begin t c p
  | getData p c => exact decode_packReq_getData t c p
  | named c p => rw [encode_named, decode_packReq_send, ofSend_word hdistinct]
  | sendGeneric c p => rw [encode, decode_packReq_send, ofSend_generic henc]
  | reservedOp0 r => exact decode_reserved t r

/-- Settles O9: a word is its fields, and each form of request is packed from the fields it was
decoded from. -/
theorem encodeOfDecodeIsIdentity : Obligations.EncodeOfDecodeIsIdentity := by
  intro t w i h
  rcases decode_cases h with ⟨h0, rfl⟩ | ⟨hrsv, hop, rfl⟩ | ⟨hrsv, hop, rfl⟩ | ⟨hrsv, hop, rfl⟩
  · exact ⟨trivial, reserved_fields h0⟩
  · exact ⟨trivial, by rw [encode, ← hop, packReq_fields hrsv]⟩
  · exact ⟨trivial, by rw [encode, ← hop, packReq_fields hrsv]⟩
  · obtain ⟨henc, hword⟩ := encode_ofSend t (reqCmd w) (reqParam w)
    exact ⟨henc, by rw [hword, ← hop, packReq_fields hrsv]⟩

/-- Settles O7: nine closed words, computed. -/
theorem specWordsDecode : Obligations.SpecWordsDecode :=
  ⟨rfl, rfl, rfl, rfl, rfl, rfl, rfl, rfl, rfl⟩

/-! ### Requests by name, and requests refused -/

/-- Settles O10: both meanings are the same request at the port. -/
theorem namedCommandIsItsTableWord : Obligations.NamedCommandIsItsTableWord := by
  intro c p s
  rw [exec_named, exec_sendGeneric]

/-- While no transport is open, SEND_COMMAND's first test speaks against it (R252, R305). -/
theorem checkSend_of_closed {s : State} (h : s.opened = false) (cmd : CmdWord) (p : Param) :
    checkSend cmd p s = some .notOpen := by
  simp [checkSend, h]

theorem checkOpen_of_closed {s : State} (h : s.opened = false) : checkOpen s = some .notOpen := by
  simp [checkOpen, h]

/-- Settles O11: each request is refused at the idle port with the reason its test finds. -/
theorem refusalsWithoutOpenTransport : Obligations.RefusalsWithoutOpenTransport := by
  intro s hidle
  refine ⟨fun hclosed p cmd => ⟨?_, ?_, fun c => ?_⟩, fun rest => ?_⟩
  · exact request_refused hidle (checkOpen_of_closed hclosed)
  · exact request_refused hidle (checkSend_of_closed hclosed cmd p)
  · rw [exec_named]
    exact request_refused hidle (checkSend_of_closed hclosed (s.cfg.table.word c) p)
  · rw [exec_reservedOp0]
    exact request_refused hidle rfl

/-! ### The packet (R95) -/

/-- The eight bytes the packet is cut from: expanded, headed and spliced (R181 to R186). -/
def splicedBytes (t : CmdTable) (cmd : CmdWord) (p : Param) : List Byte :=
  splice t cmd p ((expand cmd).set 0 Config.cmdHdr)

/-- From offset 3 on they are the parameter's bytes, or ARG and zeros. The two words with a
parameter differ in a valid table (R8). -/
theorem splicedBytes_eq {t : CmdTable} (h : t.Distinct) (cmd : CmdWord) (p : Param) :
    splicedBytes t cmd p =
      [0x5A, cmdCl cmd, cmdId cmd,
        if cmd = t.setFrameRate ∨ cmd = t.setBaudRate then p.extractLsb' 0 8 else cmdArg cmd,
        if cmd = t.setFrameRate ∨ cmd = t.setBaudRate then p.extractLsb' 8 8 else 0,
        if cmd = t.setBaudRate then p.extractLsb' 16 8 else 0, 0, 0] := by
  have hne : t.setFrameRate ≠ t.setBaudRate := fun heq =>
    absurd (List.inj_on_of_nodup_map h (Cmd.mem_all .setFrameRate) (Cmd.mem_all .setBaudRate) heq)
      (by decide)
  by_cases hrate : cmd = t.setFrameRate
  · subst hrate
    simp [splicedBytes, splice, expand, CmdTable.word, hne, Config.cmdHdr, paramLo, paramMid]
  · by_cases hbaud : cmd = t.setBaudRate
    · subst hbaud
      simp [splicedBytes, splice, expand, CmdTable.word, hne.symm, Config.cmdHdr, paramLo, paramMid,
        paramHi]
    · simp [splicedBytes, splice, expand, CmdTable.word, hrate, hbaud, Config.cmdHdr]

@[simp] theorem splicedBytes_length (t : CmdTable) (cmd : CmdWord) (p : Param) :
    (splicedBytes t cmd p).length = 8 := by
  unfold splicedBytes splice
  split_ifs <;> rfl

/-- The packet is the first CL of those bytes, the last of them replaced by the sum of the others
(R187 to R189). -/
theorem encodePacket_packet (t : CmdTable) (cmd : CmdWord) (p : Param)
    (hlo : 3 ≤ (cmdCl cmd).toNat) :
    (encodePacket t cmd p).packet =
      ((splicedBytes t cmd p).take (cmdCl cmd).toNat).set ((cmdCl cmd).toNat - 1)
        (sum8 ((splicedBytes t cmd p).take ((cmdCl cmd).toNat - 1))) := by
  have hlast : (cmdCl cmd).toNat - 2 + 1 = (cmdCl cmd).toNat - 1 := by omega
  simp [encodePacket, packetChecksum, slice, List.take_take, splicedBytes, hlast]

section
variable {t : CmdTable} {cmd : CmdWord} {p : Param}

theorem encodePacket_length (hlo : 3 ≤ (cmdCl cmd).toNat) (hhi : (cmdCl cmd).toNat ≤ 8) :
    (encodePacket t cmd p).packet.length = (cmdCl cmd).toNat := by
  simp [encodePacket_packet t cmd p hlo, hhi]

/-- Before its last byte the packet is the spliced bytes. -/
theorem encodePacket_getElem? (hlo : 3 ≤ (cmdCl cmd).toNat) {i : Nat}
    (hi : i + 1 < (cmdCl cmd).toNat) :
    (encodePacket t cmd p).packet[i]? = (splicedBytes t cmd p)[i]? := by
  rw [encodePacket_packet t cmd p hlo, List.getElem?_set_ne (by omega),
    List.getElem?_take_of_lt (by omega)]

/-- The last byte of the packet is the sum of the bytes before it (R188). -/
theorem encodePacket_checksum (hlo : 3 ≤ (cmdCl cmd).toNat) (hhi : (cmdCl cmd).toNat ≤ 8) :
    (encodePacket t cmd p).packet[(cmdCl cmd).toNat - 1]? =
      some (sum8 ((encodePacket t cmd p).packet.take ((cmdCl cmd).toNat - 1))) := by
  have hlt : (cmdCl cmd).toNat - 1 < (cmdCl cmd).toNat := by omega
  simp [encodePacket_packet t cmd p hlo, List.take_take, List.take_set_of_le,
    hlt, hlt.le, hhi]

end

/-- Settles O26: below the checksum byte the packet is the spliced bytes, and those are written
out. -/
theorem packetLayout : Obligations.PacketLayout := by
  rintro t cmd p ⟨hdistinct, -⟩ ⟨⟨hlo, hhi⟩, -⟩
  have hbytes := splicedBytes_eq hdistinct cmd p
  refine ⟨encodePacket_length hlo hhi, ?_, ?_, fun h => ?_, fun h => ?_, fun h => ?_, fun h => ?_,
    fun h => ?_, encodePacket_checksum hlo hhi⟩ <;>
  · rw [encodePacket_getElem? hlo (by omega), hbytes]
    rfl

end Sys2Proof.Machine

/-! ## Proofs: scripts (30_encoding.md R104, R105) -/

namespace Sys2Proof.Machine

/-! ### The word SENDCMD assembles to -/

theorem packReq_toNat (cmd : CmdWord) (p : Param) (op : BitVec 2) :
    (packReq cmd p op).toNat = cmd.toNat * 2 ^ 32 + p.toNat * 2 ^ 8 + op.toNat := by
  have hp : p.toNat < 2 ^ 24 := p.isLt
  have hop : op.toNat < 2 ^ 2 := op.isLt
  simp only [packReq, BitVec.toNat_append, BitVec.toNat_ofNat, Nat.zero_mod, Nat.or_zero]
  rw [← Nat.shiftLeft_add_eq_or_of_lt hp, ← Nat.shiftLeft_add_eq_or_of_lt hop]
  simp only [Nat.shiftLeft_eq]
  omega

/-- `(word << 32) | (n << 8) | 3` is the packed request (R90, R104). -/
theorem assembleSend_eq (cmd : CmdWord) {n : Nat} (hn : n < 2 ^ 24) :
    assembleSend cmd.toNat n = some (packReq cmd (BitVec.ofNat 24 n) 3) := by
  have hcmd : cmd.toNat < 2 ^ 32 := cmd.isLt
  rw [assembleSend, if_pos ⟨hcmd, hn⟩]
  congr 1
  apply BitVec.eq_of_toNat_eq
  rw [packReq_toNat, BitVec.toNat_ofNat, BitVec.toNat_ofNat, Nat.mod_eq_of_lt hn]
  exact Nat.mod_eq_of_lt (by omega)

/-- SENDCMD with a literal word assembles to a word that decodes to SEND_COMMAND with it (R104). -/
theorem assemble_sendWord (t : CmdTable) (cmd : CmdWord) {n : Nat} (hn : n < 2 ^ 24) :
    ∃ w, assemble t (.sendWord cmd.toNat n) = some w ∧
      decode t w = .ok (Instr.ofSend t cmd (BitVec.ofNat 24 n)) :=
  ⟨_, assembleSend_eq cmd hn, decode_packReq_send t cmd _⟩

/-- SENDCMD with a mnemonic assembles to a word that decodes to the named command (R99, R104). -/
theorem assemble_sendCmd {t : CmdTable} (h : t.Distinct) (c : Cmd) {n : Nat} (hn : n < 2 ^ 24) :
    ∃ w, assemble t (.sendCmd c n) = some w ∧
      decode t w = .ok (Instr.named c (BitVec.ofNat 24 n)) :=
  ⟨_, assembleSend_eq (t.word c) hn, by rw [decode_packReq_send, ofSend_word h]⟩

/-! ### Numbers -/

/-- Digits whose values are known are read as the number they write. -/
theorem digits?_map {α : Type} {base : Nat} {char : α → Char} {value : α → Nat}
    (h : ∀ a, digit? base (char a) = some (value a)) (acc : Nat) (ds : List α) :
    digits? base acc (ds.map char) = some (ds.foldl (fun n a => n * base + value a) acc) := by
  induction ds generalizing acc with
  | nil => rfl
  | cons d ds ih => simp [digits?, h, ih]

/-- A non-empty run of decimal digits is read as decimal: no decimal digit is an `x`, so it does
not begin with `0x`. -/
theorem number?_of_decimal {w : List Char} {n : Nat} (hw : w ≠ []) (h : digits? 10 0 w = some n) :
    number? w = some n := by
  unfold number?
  split
  · exact absurd rfl hw
  · simp [digits?, digit?] at h
  · exact h

theorem number?_of_hexadecimal {w : List Char} (hw : w ≠ []) :
    number? ('0' :: 'x' :: w) = digits? 16 0 w := by
  simp [number?, hw]

theorem digit?_decimal (d : Fin 10) : digit? 10 (Char.ofNat (48 + d.val)) = some d.val := by
  decide +revert

/-- A hexadecimal digit above 9 is a letter of either case (log 25). -/
theorem digit?_hexadecimal (d : Fin 16 × Bool) :
    digit? 16 (Char.ofNat (if d.1.val < 10 then 48 + d.1.val
      else if d.2 then 55 + d.1.val else 87 + d.1.val)) = some d.1.val := by
  obtain ⟨d, upper⟩ := d
  decide +revert

/-! ### Tokens -/

/-- A run of characters none of which ends a token. -/
def Unbroken (l : List Char) : Prop := ∀ c ∈ l, c ≠ ';' ∧ c ≠ ',' ∧ c ≠ ' '

/-- What can stand as one token. -/
def IsToken (l : List Char) : Prop := l ≠ [] ∧ Unbroken l

theorem tokens_unbroken_append {l : List Char} (h : Unbroken l) (word rest : List Char) :
    tokens word (l ++ rest) = tokens (l.reverse ++ word) rest := by
  induction l generalizing word with
  | nil => rfl
  | cons c l ih =>
    obtain ⟨⟨hsemi, hcomma, hspace⟩, hl⟩ := List.forall_mem_cons.1 h
    simp [tokens, hsemi, hcomma, hspace, ih hl]

theorem tokens_last {l : List Char} (h : IsToken l) : tokens [] l = [String.ofList l] := by
  have := tokens_unbroken_append h.2 [] []
  simpa [tokens, h.1] using this

theorem tokens_space {l : List Char} (h : IsToken l) (rest : List Char) :
    tokens [] (l ++ ' ' :: rest) = String.ofList l :: tokens [] rest := by
  rw [tokens_unbroken_append h.2]
  simp [tokens, h.1]

theorem tokens_comma_space {l : List Char} (h : IsToken l) (rest : List Char) :
    tokens [] (l ++ ',' :: ' ' :: rest) = String.ofList l :: "," :: tokens [] rest := by
  rw [tokens_unbroken_append h.2]
  simp [tokens, h.1]

/-- What follows a semicolon is not read. -/
theorem tokens_comment (word l comment : List Char) :
    tokens word (l ++ ';' :: comment) = tokens word l := by
  induction l generalizing word with
  | nil => simp [tokens]
  | cons c l ih => simp [tokens, ih]

/-- A digit of any base ends no token. -/
theorem digit?_unbroken {base d : Nat} {c : Char} (h : digit? base c = some d) :
    c ≠ ';' ∧ c ≠ ',' ∧ c ≠ ' ' := by
  refine ⟨?_, ?_, ?_⟩ <;>
  · rintro rfl
    simp [digit?] at h

theorem digits?_unbroken {base acc n : Nat} {l : List Char} (h : digits? base acc l = some n) :
    Unbroken l := by
  induction l generalizing acc with
  | nil => exact nofun
  | cons c l ih =>
    obtain ⟨d, hd, hl⟩ := Option.bind_eq_some_iff.1 h
    exact List.forall_mem_cons.2 ⟨digit?_unbroken hd, ih hl⟩

/-- What is read as a number is one token. -/
theorem isToken_of_number {l : List Char} {n : Nat} (h : number? l = some n) : IsToken l := by
  unfold number? at h
  split at h
  · cases h
  · split_ifs at h
    refine ⟨nofun, List.forall_mem_cons.2 ⟨by decide, List.forall_mem_cons.2 ⟨by decide, ?_⟩⟩⟩
    exact digits?_unbroken h
  · exact ⟨nofun, digits?_unbroken h⟩

theorem isToken_mnemonic (c : Cmd) : IsToken (Cmd.mnemonic c).toList := by
  cases c <;> simp [IsToken, Unbroken, Cmd.mnemonic]

/-! ### Lines -/

/-- The keywords that a space follows (R104, R105). -/
def openingKeywords : List String := ["RETRY", "SETFPS", "SETBAUD", "SENDCMD"]

theorem isToken_keyword : ∀ key ∈ openingKeywords, IsToken key.toList := by
  simp [openingKeywords, IsToken, Unbroken]

/-- A line that begins with a keyword and a space. -/
theorem parseLine_keyword {key text : String} {rest : List Char} (hkey : key ∈ openingKeywords)
    (htext : text.toList = key.toList ++ ' ' :: rest) :
    parseLine text = lineOf? (key :: tokens [] rest) := by
  rw [parseLine, htext, tokens_space (isToken_keyword key hkey), String.ofList_toList]

theorem parseLine_retry (line : String) :
    parseLine ("RETRY " ++ line) = (parseLine line).map .retry :=
  parseLine_keyword (key := "RETRY") (rest := line.toList) (by decide) (by simp)

theorem parseLine_comment (line comment : String) :
    parseLine (line ++ ";" ++ comment) = parseLine line := by
  have htext : (line ++ ";" ++ comment).toList = line.toList ++ ';' :: comment.toList := by simp
  rw [parseLine, htext, tokens_comment, parseLine]

section
variable {w : String} {n : Nat} (hw : number? w.toList = some n)
include hw

theorem tokens_number : tokens [] w.toList = [w] := by
  rw [tokens_last (isToken_of_number hw), String.ofList_toList]

theorem parseLine_setFps : parseLine ("SETFPS " ++ w) = some (.setFps n) := by
  rw [parseLine_keyword (key := "SETFPS") (rest := w.toList) (by decide) (by simp),
    tokens_number hw]
  simp [lineOf?, hw]

theorem parseLine_setBaud : parseLine ("SETBAUD " ++ w) = some (.setBaud n) := by
  rw [parseLine_keyword (key := "SETBAUD") (rest := w.toList) (by decide) (by simp),
    tokens_number hw]
  simp [lineOf?, hw]

/-- SENDCMD with a word and a parameter, whichever way the word is written. -/
theorem parseLine_send {text word : String} (hword : IsToken word.toList)
    (htext : text.toList = "SENDCMD".toList ++ ' ' :: (word.toList ++ ',' :: ' ' :: w.toList)) :
    parseLine text = sendLine? word n := by
  rw [parseLine_keyword (by decide) htext, tokens_comma_space hword, tokens_number hw,
    String.ofList_toList]
  simp [lineOf?, hw]

end

theorem sendLine?_mnemonic (c : Cmd) (n : Nat) :
    sendLine? (Cmd.mnemonic c) n = some (.sendCmd c n) := by
  cases c <;> rfl

theorem parseLine_sendCmd {w : String} {n : Nat} (hw : number? w.toList = some n) (c : Cmd) :
    parseLine ("SENDCMD " ++ Cmd.mnemonic c ++ ", " ++ w) = some (.sendCmd c n) := by
  rw [parseLine_send hw (isToken_mnemonic c) (by simp), sendLine?_mnemonic]

/-- A mnemonic alone has the parameter 0 (R104). -/
theorem parseLine_sendCmd_zero (c : Cmd) :
    parseLine ("SENDCMD " ++ Cmd.mnemonic c) = some (.sendCmd c 0) := by
  rw [parseLine_keyword (key := "SENDCMD") (rest := (Cmd.mnemonic c).toList) (by decide)
    (by simp), tokens_last (isToken_mnemonic c), String.ofList_toList]
  exact sendLine?_mnemonic c 0

theorem parseLine_sendWord {w lit : String} {n m : Nat} (hw : number? w.toList = some n)
    (hlit : number? lit.toList = some m) :
    parseLine ("SENDCMD #" ++ lit ++ ", " ++ w) = some (.sendWord m n) := by
  have hword : IsToken ("#" ++ lit).toList := by
    rw [String.toList_append]
    exact ⟨nofun, List.forall_mem_cons.2 ⟨by decide, (isToken_of_number hlit).2⟩⟩
  rw [parseLine_send hw hword (by simp)]
  simp [sendLine?, hlit]

/-- Settles O60: the assembled words are packed requests, numbers are read digit by digit, and a line
is read token by token. -/
theorem scriptLinesAssemble : Obligations.ScriptLinesAssemble :=
  ⟨fun t ⟨hdistinct, _⟩ =>
    ⟨rfl, rfl, fun c _ => assemble_sendCmd hdistinct c, fun cmd _ => assemble_sendWord t cmd,
      fun _ => rfl, fun _ => rfl, rfl, rfl, fun _ _ => ⟨rfl, rfl, rfl⟩⟩,
    fun ds hds => number?_of_decimal (by simpa using hds) (digits?_map digit?_decimal 0 ds),
    fun ds hds => (number?_of_hexadecimal (by simpa using hds)).trans
      (digits?_map digit?_hexadecimal 0 ds),
    rfl, rfl, rfl, rfl,
    fun _ _ hw => ⟨parseLine_setFps hw, parseLine_setBaud hw, parseLine_sendCmd hw,
      fun _ _ => parseLine_sendWord hw⟩,
    parseLine_sendCmd_zero, parseLine_retry, parseLine_comment⟩

end Sys2Proof.Machine

/-! ## Proofs: the checksum (40_checksum.md) -/

namespace Sys2Proof.Machine

/-! ### The accumulator (R130) -/

theorem sum8_eq_sum (A : List Byte) : sum8 A = A.sum := List.sum_eq_foldl.symm

theorem sum8_perm {A B : List Byte} (h : A.Perm B) : sum8 A = sum8 B := by
  rw [sum8_eq_sum, sum8_eq_sum, h.sum_eq]

theorem sum8_toNat (A : List Byte) : (sum8 A).toNat = (A.map BitVec.toNat).sum % 256 := by
  rw [sum8_eq_sum]
  induction A with
  | nil => rfl
  | cons b A ih =>
    rw [List.sum_cons, BitVec.toNat_add, ih, List.map_cons, List.sum_cons, Nat.add_mod_mod]

/-- A change to one byte moves the sum by the difference. -/
theorem sum8_set (A : List Byte) {i : Nat} (h : i < A.length) (b : Byte) :
    sum8 (A.set i b) = sum8 A + (b - A[i]) := by
  rw [sum8_eq_sum, sum8_eq_sum, List.sum_set', dif_pos h, neg_add_eq_sub]

theorem slice_of_lt (A : List Byte) {a b : Nat} (h : b < a) : slice A a b = [] :=
  List.drop_eq_nil_of_le ((List.length_take_le _ _).trans h)

theorem slice_zero (A : List Byte) (b : Nat) : slice A 0 b = A.take (b + 1) := rfl

/-- Settles O23: an empty range has no bytes, and addition mod 256 is commutative. -/
theorem sum8IsSumMod256 : Obligations.Sum8IsSumMod256 :=
  ⟨fun A _ _ hlt => congrArg sum8 (slice_of_lt A hlt), fun _ _ => sum8_perm, sum8_toNat⟩

/-! ### The reply check (R132) -/

theorem replyValid_iff (R : Vector Byte 11) {rl : Nat} (h : 3 ≤ rl ∧ rl ≤ 11) :
    replyValid R rl = true ↔ sum8 (R.toList.take (rl - 1)) = R[rl - 1]'(by omega) := by
  have hsummed : rl - 2 + 1 = rl - 1 := by omega
  have hlast : rl - 1 < R.toList.length := by rw [Vector.length_toList]; omega
  rw [replyValid, slice_zero, hsummed, List.getD_eq_getElem _ _ hlast, Vector.getElem_toList,
    beq_iff_eq]

/-- Settles O24: two bytes are equal exactly when their values are. -/
theorem replyValidComparesSum : Obligations.ReplyValidComparesSum := fun R rl h => by
  rw [replyValid_iff R h, ← sum8_toNat, BitVec.toNat_inj]

/-! ### The frame check (R131, R134) -/

theorem frameValid_iff (W : Vector Byte 9) :
    frameValid W = true ↔ sum8 (W.toList.take 8) = W[8] := by
  rw [frameValid, slice_zero, beq_iff_eq]

theorem frameValid_set_summed (W : Vector Byte 9) {i : Nat} (h : i < 8) (b : Byte) :
    frameValid (W.set i b) = true ↔ sum8 (W.toList.take 8) + (b - W[i]) = W[8] := by
  have hlen : i < (W.toList.take 8).length := by simpa using h
  rw [frameValid_iff, Vector.toList_set, List.take_set, sum8_set _ hlen, List.getElem_take,
    Vector.getElem_toList, Vector.getElem_set_ne _ _ h.ne]

theorem frameValid_set_checksum (W : Vector Byte 9) (b : Byte) :
    frameValid (W.set 8 b) = true ↔ sum8 (W.toList.take 8) = b := by
  rw [frameValid_iff, Vector.toList_set, List.take_set_of_le le_rfl, Vector.getElem_set_self]

/-- A changed summed byte moves the sum off the checksum byte; a changed checksum byte is off the sum. -/
theorem frameValid_set_eq_false {W : Vector Byte 9} {i : Nat} (h : i < 9) {b : Byte}
    (hW : frameValid W = true) (hb : b ≠ W[i]) : frameValid (W.set i b) = false := by
  rw [frameValid_iff] at hW
  rw [Bool.eq_false_iff, Ne]
  obtain hi | rfl := Nat.lt_succ_iff_lt_or_eq.1 h
  · rwa [frameValid_set_summed W hi, hW, add_eq_left, sub_eq_zero]
  · rw [frameValid_set_checksum, hW]
    exact hb.symm

/-- The eight summed bytes, two of them swapped, are the same bytes in another order. -/
theorem take_swap_perm (W : Vector Byte 9) {i j : Nat} (hi : i < 8) (hj : j < 8) :
    ((W.swap i j).toList.take 8).Perm (W.toList.take 8) := by
  have hlen : (W.toList.take 8).length = 8 := by simp
  have hperm := List.set_set_perm (as := W.toList.take 8) (hlen.symm ▸ hi) (hlen.symm ▸ hj)
  rw [Vector.toList_swap, List.take_set, List.take_set]
  simpa using hperm

theorem frameValid_swap (W : Vector Byte 9) {i j : Nat} (hi : i < 8) (hj : j < 8) :
    frameValid (W.swap i j) = frameValid W := by
  have hlast : (W.swap i j)[8] = W[8] := Vector.getElem_swap_of_ne hi.ne' hj.ne'
  rw [Bool.eq_iff_iff, frameValid_iff, frameValid_iff, sum8_perm (take_swap_perm W hi hj), hlast]

/-- Settles O25: one change moves the sum or the checksum byte but not both, a swap moves neither. -/
theorem frameCheckDetectsOneByteChange : Obligations.FrameCheckDetectsOneByteChange :=
  ⟨fun _ _ h _ => frameValid_set_eq_false h, fun W _ _ => frameValid_swap W, by decide⟩

end Sys2Proof.Machine

/-! ## Proofs: GET_DATA (41_frame.md) -/

namespace Sys2Proof.Machine

/-! ### Acceptance (R141, R142) -/

theorem checkOpen_of_open {s : State} (h : s.opened = true) : checkOpen s = none := by
  simp [checkOpen, h]

/-- Settles O15: with an open transport no reason speaks against the request. -/
theorem getDataAccepted : Obligations.GetDataAccepted := by
  intro p cmd s hp ho
  rw [exec_getData, request_accepted hp (checkOpen_of_open ho), acceptGetData_eq]

/-- Settles O55, by what a request can do: wait, be refused, or one of the three acceptance steps. -/
theorem requestFrame : Obligations.RequestFrame := by
  intro i s t h
  rcases exec_cases h with ⟨-, rfl⟩ | ⟨-, r, rfl⟩ | ⟨-, ⟨p, c, rfl⟩, rfl⟩ |
    ⟨-, ⟨p, c, rfl⟩, -, rfl⟩ | ⟨-, hbegin, hget, hres, cmd, p, -, rfl⟩
  · simp
  · simp
  · rw [acceptBegin_eq]
    split <;> simp
  · rw [acceptGetData_eq]
    simp
  · rw [acceptSend_eq]
    split <;> simp [hbegin, hget, hres]

/-- A request of GET_DATA at the port of an idle core with an open transport is accepted (R141, R251). -/
theorem coreTurn_getData {s : State} {p : Param} {cmd : CmdWord} (hp : s.phase = .idle)
    (ho : s.opened = true) (hv : s.reqValid = true)
    (hw : s.reqWord = encode s.cfg.table (.getData p cmd)) :
    coreTurn s = .next (acceptGetData s.takeRequest) := by
  rw [coreTurn, if_pos hp, if_pos hv, acceptRequest, hw, encode, decode_packReq_getData]
  exact request_accepted hp (checkOpen_of_open ho)

/-! ### The window and one poll iteration (R143 to R151) -/

/-- The core's turn in GD_SYNC is a poll iteration of GET_DATA (R47). -/
theorem coreTurn_gdSync {s : State} (hp : s.phase = .gdSync) :
    coreTurn s = .next (pollGetData s) := by
  rw [coreTurn_busy (by simp [hp]), poll, hp]

theorem vector9_toList (W : Vector Byte 9) :
    W.toList = [W[0], W[1], W[2], W[3], W[4], W[5], W[6], W[7], W[8]] := by
  refine List.ext_getElem (by simp) fun i hi _ => ?_
  rw [Vector.length_toList] at hi
  rw [Vector.getElem_toList]
  interval_cases i <;> rfl

theorem shiftFrame_getElem (W : Vector Byte 9) (b : Byte) {i : Nat} (h : i < 8) :
    (shiftFrame W b)[i] = W[i + 1] := by
  interval_cases i <;> rfl

/-- Settles O16: every poll iteration, whatever its outcome, leaves the window after its shift. -/
theorem frameWindowShifts : Obligations.FrameWindowShifts := by
  intro s t hp h
  rw [coreTurn_gdSync hp, pollGetData_frame] at h
  cases h
  refine ⟨fun b q hq => ?_, fun hq => ?_⟩
  · simp only [State.nextFrame, hq]
    exact ⟨rfl, rfl, fun i hi => shiftFrame_getElem _ b hi⟩
  · simp [State.nextFrame, hq]

/-- Settles O17: without the header, the deadline decides. -/
theorem framePollWithoutHeader : Obligations.FramePollWithoutHeader := by
  intro s W hp hW hh
  rw [coreTurn_gdSync hp, pollGetData_eq s hW, if_neg hh]

/-- The frame check on numbers (R130, R131). -/
theorem frameValid_iff_sum (W : Vector Byte 9) :
    frameValid W = true ↔
      (W[0].toNat + W[1].toNat + W[2].toNat + W[3].toNat + W[4].toNat + W[5].toNat + W[6].toNat +
        W[7].toNat) % 256 = W[8].toNat := by
  rw [frameValid_iff, ← BitVec.toNat_inj, sum8_toNat, vector9_toList]
  simp [add_assoc]

/-- Settles O18: with the header and a wrong sum, the deadline is not asked. -/
theorem framePollChecksumFailure : Obligations.FramePollChecksumFailure := by
  intro s W hp hW h0 h1 hsum
  rw [coreTurn_gdSync hp, pollGetData_eq s hW, if_pos ⟨h0, h1⟩,
    if_neg fun hv => hsum ((frameValid_iff_sum W).1 hv)]

theorem toNat_u16le (lo hi : Byte) : (u16le lo hi).toNat = hi.toNat * 256 + lo.toNat := by
  rw [u16le, BitVec.toNat_append, ← Nat.shiftLeft_add_eq_or_of_lt lo.isLt, Nat.shiftLeft_eq]

/-- The signed reading of two little-endian bytes (R9). -/
theorem toInt_u16le (lo hi : Byte) :
    (u16le lo hi).toInt =
      if hi.toNat * 256 + lo.toNat < 0x8000 then ((hi.toNat * 256 + lo.toNat : Nat) : Int)
      else ((hi.toNat * 256 + lo.toNat : Nat) : Int) - 0x10000 := by
  rw [BitVec.toInt_eq_toNat_cond, toNat_u16le]
  split_ifs <;> omega

/-- TEMP of a raw value, which its 16 bits hold exactly (R150). -/
theorem toInt_tempOf (raw : Word16) : (tempOf raw).toInt = ((raw.toNat / 8 : Nat) : Int) - 256 := by
  have hlt := raw.isLt
  rw [tempOf, Nat.shiftRight_eq_div_pow]
  exact BitVec.toInt_ofInt_eq_self (by decide) (by omega) (by omega)

/-- Settles O19: the next state is the decoded frame's, read by its numbers. -/
theorem framePollDecodes : Obligations.FramePollDecodes := by
  intro s W hp hW h0 h1 hsum signed dist flux
  have hdist : (frameDist W).toInt = dist := toInt_u16le W[2] W[3]
  have hflux : (frameFlux W).toInt = flux := toInt_u16le W[4] W[5]
  refine ⟨_, by rw [coreTurn_gdSync hp, pollGetData_eq s hW, if_pos ⟨h0, h1⟩,
    if_pos ((frameValid_iff_sum W).2 hsum)], hdist, hflux, ?_, ?_, ?_, rfl⟩
  · simp only [toInt_tempOf, frameRawTemp, toNat_u16le]
  · simp only [override, s16, hdist, hflux]
  · exact beq_eq_decide _ _

/-! ### The search as a walk over its bytes (R153, R154) -/

/-- The bytes a search has before it: its window, and then the bytes that wait. A poll iteration on a
waiting byte drops the first of them. -/
def State.searchBytes (s : State) : List Byte := s.frame.toList ++ s.rxq

/-- The pair 59 59 stands at index `j` of some bytes. -/
def HeaderAt (L : List Byte) (j : Nat) : Prop := L[j]? = some 0x59 ∧ L[j + 1]? = some 0x59

theorem headerAt_drop {L : List Byte} {k j : Nat} : HeaderAt (L.drop k) j ↔ HeaderAt L (k + j) := by
  simp [HeaderAt, List.getElem?_drop, add_assoc]

theorem headerMatch_iff_headerAt (W : Vector Byte 9) (q : List Byte) :
    headerMatch W = true ↔ HeaderAt (W.toList ++ q) 0 := by
  simp [headerMatch_iff, HeaderAt, vector9_toList W]

theorem State.frame_eq_take (s : State) : s.frame.toList = s.searchBytes.take 9 := by
  simp [State.searchBytes]

theorem State.drop_searchBytes (s : State) (k : Nat) : s.searchBytes.drop (9 + k) = s.rxq.drop k := by
  simp [State.searchBytes, List.drop_append]

theorem State.nextFrame_of_silent {s : State} (h : s.rxq = []) : s.nextFrame = s.frame := by
  simp [State.nextFrame, h]

theorem State.nextFrame_append_tail (s : State) :
    s.nextFrame.toList ++ s.rxq.tail = s.searchBytes.drop (min 1 s.rxq.length) := by
  cases h : s.rxq with
  | nil => simp [State.searchBytes, State.nextFrame, h]
  | cons b q => simp [State.searchBytes, State.nextFrame, h, vector9_toList, shiftFrame]

theorem State.headerMatch_nextFrame (s : State) :
    headerMatch s.nextFrame = true ↔ HeaderAt s.searchBytes (min 1 s.rxq.length) := by
  rw [headerMatch_iff_headerAt _ s.rxq.tail, s.nextFrame_append_tail, headerAt_drop, add_zero]

/-- `t` is `s` after `k` poll iterations of a search that goes on: the iterations on waiting bytes each
dropped one of the search's bytes, and only the polls, the window, RXQ and the model's own fields
changed. -/
structure State.SearchedFor (s : State) (k : Nat) (t : State) : Prop where
  others : t = { s with
    tmrPolls := s.tmrPolls + k, frame := t.frame, rxq := t.rxq, strobes := t.strobes,
    done := t.done, reqRefused := t.reqRefused, sched := t.sched }
  searchBytes : t.searchBytes = s.searchBytes.drop (min k s.rxq.length)

theorem State.SearchedFor.refl (s : State) : s.SearchedFor 0 s := ⟨rfl, by simp⟩

section
variable {s t : State} {k : Nat} (h : s.SearchedFor k t)
include h

theorem State.SearchedFor.phase : t.phase = s.phase := by rw [h.others]
theorem State.SearchedFor.tmrExp : t.tmrExp = s.tmrExp := by rw [h.others]
theorem State.SearchedFor.tmrPolls : t.tmrPolls = s.tmrPolls + k := by rw [h.others]
theorem State.SearchedFor.tmr : t.tmr = s.tmr := by rw [h.others]
theorem State.SearchedFor.cfg : t.cfg = s.cfg := by rw [h.others]
theorem State.SearchedFor.measurement : t.dist = s.dist ∧ t.flux = s.flux ∧ t.temp = s.temp := by
  rw [h.others]
  exact ⟨rfl, rfl, rfl⟩

theorem State.SearchedFor.rxq : t.rxq = s.rxq.drop k := by
  calc t.rxq = t.searchBytes.drop 9 := (t.drop_searchBytes 0).symm
    _ = s.searchBytes.drop (9 + min k s.rxq.length) := by
      rw [h.searchBytes, List.drop_drop, Nat.add_comm]
    _ = s.rxq.drop (min k s.rxq.length) := s.drop_searchBytes _
    _ = s.rxq.drop k := List.drop_eq_drop_iff.2 (by simp)

theorem State.SearchedFor.frame :
    t.frame.toList = (s.searchBytes.drop (min k s.rxq.length)).take 9 := by
  rw [t.frame_eq_take, h.searchBytes]

/-- While no byte waits, the window stays (R143). -/
theorem State.SearchedFor.frame_of_silent (hq : s.rxq = []) : t.frame = s.frame := by
  rw [← Vector.toList_inj, h.frame, hq, List.length_nil, Nat.min_zero, List.drop_zero,
    s.frame_eq_take]

theorem State.SearchedFor.trans {u : State} {j : Nat} (h' : t.SearchedFor j u) :
    s.SearchedFor (k + j) u := by
  refine ⟨?_, ?_⟩
  · rw [h'.others, h.others]
    simp [add_assoc]
  · have hdropped : min k s.rxq.length + min j (s.rxq.length - k) = min (k + j) s.rxq.length := by
      omega
    rw [h'.searchBytes, h.searchBytes, h.rxq, List.length_drop, List.drop_drop, hdropped]

end

/-- The core's next turn in GD_SYNC, from the start of the step. -/
theorem step_gdSync {s : State} {more : List Event} (hs : s.sched = .core :: more)
    (hp : s.phase = .gdSync) :
    step s = .next (pollGetData
      { s with sched := more, done := false, reqRefused := false, strobes := {} }) := by
  rw [step_of_sched hs, turn, coreTurn_gdSync (by exact hp)]

/-- A poll iteration that finds no header before the deadline expires goes on. -/
theorem step_search {s : State} {more : List Event} (hs : s.sched = .core :: more)
    (hp : s.phase = .gdSync) (hx : s.tmrExp = false)
    (hh : ¬ HeaderAt s.searchBytes (min 1 s.rxq.length)) :
    ∃ t, step s = .next t ∧ t.done = false ∧ t.sched = more ∧ s.SearchedFor 1 t := by
  rw [← s.headerMatch_nextFrame, headerMatch_iff] at hh
  rw [step_gdSync hs hp, pollGetData_eq _ (W := s.nextFrame) (by rfl), if_neg hh,
    if_neg (by simp [hx])]
  exact ⟨_, rfl, rfl, rfl, rfl, s.nextFrame_append_tail⟩

theorem runTrace_of_step {s t : State} (h : step s = .next t) (hd : t.done = false) (m : Nat) :
    runTrace (m + 1) s = runTrace m t := by
  simp [runTrace, h, State.completion?, hd]

theorem runTrace_of_completion {s t : State} (h : step s = .next t) (hd : t.done = true) :
    runTrace 1 s = some ([⟨t.status, t.ok⟩], t) := by
  simp [runTrace, h, State.completion?, hd]

/-- `k` turns of the core on a search that finds no header and does not expire complete nothing. -/
theorem runTrace_search {k : Nat} {s : State} {more : List Event}
    (hs : s.sched = List.replicate k .core ++ more) (hp : s.phase = .gdSync) (hx : s.tmrExp = false)
    (hh : ∀ j ≤ min k s.rxq.length, ¬ HeaderAt s.searchBytes j) :
    ∃ t, (∀ m, runTrace (k + m) s = runTrace m t) ∧ t.sched = more ∧ s.SearchedFor k t := by
  induction k generalizing s with
  | zero => exact ⟨s, fun m => by rw [Nat.zero_add], hs, .refl s⟩
  | succ k ih =>
    obtain ⟨u, hu, hd, hsu, hsearch⟩ := step_search hs hp hx (hh _ (by omega))
    obtain ⟨t, ht, hst, hsearch'⟩ := ih hsu (hsearch.phase.trans hp) (hsearch.tmrExp.trans hx) (by
      intro j hj
      rw [hsearch.rxq, List.length_drop] at hj
      rw [hsearch.searchBytes, headerAt_drop]
      exact hh _ (by omega))
    refine ⟨t, fun m => ?_, hst, Nat.add_comm k 1 ▸ hsearch.trans hsearch'⟩
    rw [Nat.add_right_comm, runTrace_of_step hu hd, ht]

/-! ### A search from a fresh window -/

theorem not_headerAt_zeros {q : List Byte} {j : Nat} (h : j < 9) :
    ¬ HeaderAt (List.replicate 9 0 ++ q) j := by
  rw [HeaderAt, List.getElem?_append_left (by simpa using h), List.getElem?_replicate_of_lt h]
  simp

section
variable {s : State} (hf : s.frame = Vector.replicate 9 0)
include hf

theorem State.searchBytes_of_fresh : s.searchBytes = List.replicate 9 0 ++ s.rxq := by
  rw [State.searchBytes, hf, Vector.toList_replicate]

/-- From a fresh window a header is found among the bytes received, and not before its nine bytes
are. -/
theorem headerAt_of_fresh {j : Nat} : HeaderAt s.searchBytes j ↔ 9 ≤ j ∧ HeaderAt s.rxq (j - 9) := by
  by_cases hj : j < 9
  · rw [State.searchBytes_of_fresh hf]
    exact iff_of_false (not_headerAt_zeros hj) (by omega)
  · obtain ⟨i, rfl⟩ := Nat.exists_eq_add_of_le (Nat.le_of_not_lt hj)
    rw [← headerAt_drop, ← add_zero 9, s.drop_searchBytes]
    simp

end

/-- Settles O20: fewer than nine polls look at windows that still start with a zero. -/
theorem noFrameMatchBeforeNineBytes : Obligations.NoFrameMatchBeforeNineBytes := by
  intro s k more hk hp hf hx hlen hs
  obtain ⟨t, hrun, hst, hsearch⟩ := runTrace_search hs hp hx fun j hj hh => by
    have := ((headerAt_of_fresh hf).1 hh).1
    omega
  refine ⟨t, hrun 0, hsearch.phase.trans hp, hsearch.rxq, ?_, hst⟩
  rw [hsearch.frame, State.searchBytes_of_fresh hf, min_eq_left hlen]
  rw [List.drop_append_of_le_length (by simp; omega), List.drop_replicate, List.take_append,
    List.length_replicate, List.take_of_length_le (by simp)]
  congr 2
  omega

/-- A poll iteration that finds the header completes, with CHECKSUM_FAILURE or the decoded frame
(R147, R149, R151). -/
theorem step_match {s : State} {more : List Event} (hs : s.sched = .core :: more)
    (hp : s.phase = .gdSync) (hh : headerMatch s.nextFrame = true) :
    ∃ t, step s = .next t ∧ t.done = true ∧ t.phase = .idle ∧ t.rxq = s.rxq.tail ∧
      t.sched = more ∧ t.frame = s.nextFrame ∧
      t.status = (if frameValid t.frame = true then override t.dist t.flux else .checksumFailure) ∧
      (if frameValid t.frame = true then t.dist = frameDist t.frame ∧ t.flux = frameFlux t.frame
      else t.dist = s.dist ∧ t.flux = s.flux ∧ t.temp = s.temp) := by
  rw [step_gdSync hs hp, pollGetData_eq _ (W := s.nextFrame) (by rfl),
    if_pos ((headerMatch_iff _).1 hh)]
  refine ⟨_, rfl, ?_⟩
  cases hv : frameValid s.nextFrame <;> simp [hv]

/-- A poll iteration that finds no header and an expired deadline completes with HEADER_TIMEOUT
(R146). -/
theorem step_timeout {s : State} {more : List Event} (hs : s.sched = .core :: more)
    (hp : s.phase = .gdSync) (hx : s.tmrExp = true) (hh : ¬ headerMatch s.nextFrame = true) :
    ∃ t, step s = .next t ∧ t.done = true ∧ t.phase = .idle ∧ t.status = .headerTimeout ∧
      t.ok = false ∧ t.rxq = s.rxq.tail ∧ t.frame = s.nextFrame ∧
      t.dist = s.dist ∧ t.flux = s.flux ∧ t.temp = s.temp := by
  rw [headerMatch_iff] at hh
  rw [step_gdSync hs hp, pollGetData_eq _ (W := s.nextFrame) (by rfl), if_neg hh, if_pos hx]
  exact ⟨_, rfl, rfl, rfl, rfl, rfl, rfl, rfl, rfl, rfl, rfl⟩

/-- Settles O21: the windows before byte `i + 8` is popped do not start with the pair, and the one it
gives does. -/
theorem firstHeaderPairWins : Obligations.FirstHeaderPairWins := by
  intro s i more hp hf hx h0 h1 hlen hfirst hs
  rw [show i + 9 = i + 8 + 1 from rfl, List.replicate_succ', List.append_assoc] at hs
  obtain ⟨u, hrun, hsu, hsearch⟩ := runTrace_search hs hp hx fun j hj hh => by
    obtain ⟨hj9, hh⟩ := (headerAt_of_fresh hf).1 hh
    exact hfirst _ (by omega) hh
  have hwaits : min 1 u.rxq.length = 1 := by
    rw [hsearch.rxq, List.length_drop]
    omega
  have hbytes : u.searchBytes.drop 1 = s.searchBytes.drop (9 + i) := by
    rw [hsearch.searchBytes, List.drop_drop]
    congr 1
    omega
  have hmatch : headerMatch u.nextFrame = true := by
    rw [u.headerMatch_nextFrame, hwaits, ← add_zero 1, ← headerAt_drop, hbytes, headerAt_drop,
      headerAt_of_fresh hf]
    exact ⟨by omega, by simpa [HeaderAt] using ⟨h0, h1⟩⟩
  obtain ⟨t, hstep, hdone, hidle, hrxq, hst, hframe, hstatus, hdata⟩ :=
    step_match hsu (hsearch.phase.trans hp) hmatch
  refine ⟨t, by rw [hrun 1, runTrace_of_completion hstep hdone], hidle, ?_, hst, ?_, hstatus, ?_⟩
  · rw [hrxq, hsearch.rxq, List.tail_drop]
  · rw [hframe, ← s.drop_searchBytes, ← hbytes, ← hwaits, ← u.nextFrame_append_tail,
      List.take_left' (by simp)]
  · obtain ⟨hd, hfl, ht⟩ := hsearch.measurement
    rw [hd, hfl, ht] at hdata
    exact hdata

/-- An expiry that R43 allows touches neither the search nor the measurement. -/
theorem step_expiry {s : State} {more : List Event} (hs : s.sched = .timer :: more)
    (htmr : s.tmr = .deadline) (hn : s.cfg.deadlineMinPolls ≤ s.tmrPolls) :
    ∃ t, step s = .next t ∧ t.done = false ∧ t.sched = more ∧ t.tmrExp = true ∧
      t.phase = s.phase ∧ t.rxq = s.rxq ∧ t.frame = s.frame ∧
      t.dist = s.dist ∧ t.flux = s.flux ∧ t.temp = s.temp :=
  ⟨_, timerTurnExpires s more hs, rfl, rfl, if_pos ⟨by simp [htmr], .inl hn⟩,
    rfl, rfl, rfl, rfl, rfl, rfl⟩

/-- A search from a fresh window while no byte arrives: any number of polls that lets the deadline expire,
the expiry, and the poll that ends in HEADER_TIMEOUT (R158). -/
theorem runTrace_silent {s : State} {n : Nat} {more : List Event}
    (hs : s.sched = List.replicate n .core ++ .timer :: .core :: more) (hp : s.phase = .gdSync)
    (hf : s.frame = Vector.replicate 9 0) (hq : s.rxq = []) (hx : s.tmrExp = false)
    (htmr : s.tmr = .deadline) (hn : s.cfg.deadlineMinPolls ≤ s.tmrPolls + n) :
    ∃ t, runTrace (n + 2) s = some ([⟨.headerTimeout, false⟩], t) ∧ t.phase = .idle ∧
      t.frame = Vector.replicate 9 0 ∧ t.rxq = [] ∧
      t.dist = s.dist ∧ t.flux = s.flux ∧ t.temp = s.temp := by
  obtain ⟨u, hrun, hsu, hsearch⟩ := runTrace_search hs hp hx fun j hj hh => by
    have hreceived := ((headerAt_of_fresh hf).1 hh).1
    rw [hq, List.length_nil] at hj
    omega
  obtain ⟨v, hexp, hdv, hsv, hxv, hpv, hqv, hfv, hdistv, hfluxv, htempv⟩ :=
    step_expiry hsu (hsearch.tmr.trans htmr) (by rwa [hsearch.cfg, hsearch.tmrPolls])
  have hqv : v.rxq = [] := by rw [hqv, hsearch.rxq, hq, List.drop_nil]
  have hnext : v.nextFrame = Vector.replicate 9 0 := by
    rw [State.nextFrame_of_silent hqv, hfv, hsearch.frame_of_silent hq, hf]
  obtain ⟨t, hlast, hdone, hidle, hstatus, hok, hqt, hft, hdistt, hfluxt, htempt⟩ :=
    step_timeout hsv (hpv.trans (hsearch.phase.trans hp)) hxv
      (Bool.eq_false_iff.1 (hnext ▸ headerMatch_zeros))
  obtain ⟨hdist, hflux, htemp⟩ := hsearch.measurement
  refine ⟨t, ?_, hidle, hft.trans hnext, by rw [hqt, hqv, List.tail_nil],
    hdistt.trans (hdistv.trans hdist), hfluxt.trans (hfluxv.trans hflux),
    htempt.trans (htempv.trans htemp)⟩
  rw [hrun 2, runTrace_of_step hexp hdv, runTrace_of_completion hlast hdone, hstatus, hok]

/-- The core's step that accepts a GET_DATA while no byte waits (R142). -/
theorem step_getData_silent {s : State} {p : Param} {cmd : CmdWord} {more : List Event}
    (hs : s.sched = .core :: more) (hp : s.phase = .idle) (ho : s.opened = true) (hq : s.rxq = [])
    (hv : s.reqValid = true) (hw : s.reqWord = encode s.cfg.table (.getData p cmd)) :
    step s = .next
      { s with sched := more, done := false, reqRefused := false, reqValid := false,
               frame := Vector.replicate 9 0, tmr := .deadline, tmrExp := false, tmrPolls := 0,
               phase := .gdSync, strobes := Strobes.start {} .deadline } := by
  rw [step_of_sched hs, turn, coreTurn_getData (by exact hp) (by exact ho) (by exact hv)
    (by exact hw), acceptGetData_eq]
  simp [State.takeRequest, hq]

/-- Settles O22: the acceptance zeroes the window and starts the deadline of a silent search. -/
theorem silentTransportTimesOut : Obligations.SilentTransportTimesOut := by
  intro s p cmd n more hp ho hq hv hw hn hs
  rw [List.append_assoc] at hs
  have hacc := step_getData_silent hs hp ho hq hv hw
  rw [show n + 3 = n + 2 + 1 from rfl, runTrace_of_step hacc rfl]
  exact runTrace_silent (more := more) rfl rfl rfl hq rfl rfl (by rwa [Nat.zero_add])

end Sys2Proof.Machine

/-! ## Proofs: running operations end (10_state.md R43, R48) -/

namespace Sys2Proof.Machine

/-- A running operation has a timer (R43). -/
theorem State.TimerMatchesPhase.tmr_ne_none {s : State} (h : s.TimerMatchesPhase)
    (hp : s.phase ≠ .idle) : s.tmr ≠ .none := by
  obtain ⟨-, hsearch, hsettle⟩ := h
  cases hph : s.phase with
  | idle => exact absurd hph hp
  | gdSync => simp [hsearch (.inl hph)]
  | scSync => simp [hsearch (.inr hph)]
  | bgSettle => simp [hsettle hph]

/-- A step of a run after which the operation still runs keeps its phase, its timer and an expiry, and is
no core turn if the timer has expired. -/
theorem State.MayStep.runs_on {s t : State} {e : Event} (h : s.MayStep e t) (hs : s.phase ≠ .idle)
    (ht : t.phase ≠ .idle) :
    t.phase = s.phase ∧ t.tmr = s.tmr ∧ (s.tmrExp = true → t.tmrExp = true ∧ e ≠ .core) := by
  rcases State.mayStep_busy_cases h hs with ⟨-, hi, -⟩ | ⟨-, hi, -⟩ |
    ⟨-, hph, htmr, -, hexp, hcore, -⟩
  · exact absurd hi ht
  · exact absurd hi ht
  · refine ⟨hph, htmr, fun hx => ⟨hexp hx, fun he => ?_⟩⟩
    rw [hx] at hcore
    cases (hcore he).1

section
variable {e : Nat → Event} {r : Nat → State}

/-- Along a run in which the core stays busy, the phase, the timer and an expiry stay. -/
theorem IsRun.runs_on (hrun : IsRun e r) {n m : Nat} (hnm : n ≤ m)
    (hbusy : ∀ k, n ≤ k → k ≤ m → (r k).phase ≠ .idle) :
    (r m).phase = (r n).phase ∧ (r m).tmr = (r n).tmr ∧
      ((r n).tmrExp = true → (r m).tmrExp = true) := by
  induction m, hnm using Nat.le_induction with
  | base => exact ⟨rfl, rfl, id⟩
  | succ m hnm ih =>
    obtain ⟨hph, htmr, hexp⟩ := ih fun k hk hkm => hbusy k hk (by omega)
    obtain ⟨hph', htmr', hexp'⟩ := (hrun m).runs_on (hbusy m hnm (by omega))
      (hbusy (m + 1) (by omega) le_rfl)
    exact ⟨hph'.trans hph, htmr'.trans htmr, fun hx => (hexp' (hexp hx)).1⟩

/-- In a fair run a running operation ends: otherwise its timer expires, stays expired, and the core,
enabled for ever, takes a turn. -/
theorem FairRun.ends (hfair : FairRun e r) {n : Nat} (htm : (r n).TimerMatchesPhase)
    (hp : (r n).phase ≠ .idle) : ∃ m, n ≤ m ∧ (r m).phase = .idle := by
  by_contra! hbusy
  have hon {i m : Nat} (hi : n ≤ i) (him : i ≤ m) :=
    hfair.isRun.runs_on him fun k hk _ => hbusy k (hi.trans hk)
  obtain ⟨x, hnx, hx⟩ := hfair.timer n fun m hm => by
    rw [(hon le_rfl hm).2.1]
    exact htm.tmr_ne_none hp
  obtain ⟨c, hxc, hc⟩ := hfair.core x fun m hm => by
    simp [State.enabled, hbusy m (hnx.trans hm)]
  have hnc := hnx.trans hxc
  obtain ⟨-, -, hexp⟩ := (hfair.isRun c).runs_on (hbusy c hnc) (hbusy (c + 1) (hnc.trans c.le_succ))
  exact (hexp ((hon hnx hxc).2.2 hx)).2 hc

/-- In a fair run a running operation stays in its phase up to the step that ends it, a completion in the
core's turn or a core reset: the step to the first later state with an idle core. -/
theorem FairRun.completes (hfair : FairRun e r) {n : Nat} (htm : (r n).TimerMatchesPhase)
    (hp : (r n).phase ≠ .idle) :
    ∃ m, n ≤ m ∧ (∀ k, n ≤ k → k ≤ m → (r k).phase = (r n).phase) ∧ (r (m + 1)).phase = .idle ∧
      (e m = .hostReset ∨ e m = .core ∧ (r (m + 1)).done = true) := by
  classical
  have hend := hfair.ends htm hp
  obtain ⟨hle, hidle⟩ := Nat.find_spec hend
  have hfirst : ∀ k, n ≤ k → k < Nat.find hend → (r k).phase ≠ .idle :=
    fun k hk hlt hi => Nat.find_min hend hlt ⟨hk, hi⟩
  have hne : n ≠ Nat.find hend := fun heq => hp (heq ▸ hidle)
  obtain ⟨d, hd⟩ := Nat.exists_eq_add_of_lt (lt_of_le_of_ne hle hne)
  rw [hd] at hidle
  have hbusy : ∀ k, n ≤ k → k ≤ n + d → (r k).phase ≠ .idle := fun k hk hkd =>
    hfirst k hk (by omega)
  refine ⟨n + d, by omega, fun k hk hkd => ?_, hidle, ?_⟩
  · exact (hfair.isRun.runs_on hk fun j hj hjk => hbusy j hj (hjk.trans hkd)).1
  · have hlast := hbusy (n + d) (by omega) le_rfl
    rcases State.mayStep_busy_cases (hfair.isRun (n + d)) hlast with
      ⟨he, -, -, hdone⟩ | ⟨he, -⟩ | ⟨-, hph, -⟩
    · exact .inr ⟨he, hdone⟩
    · exact .inl he
    · exact absurd (hph.symm.trans hidle) hlast

end

/-- The core's turn on a running operation whose timer has expired completes it (R159, R261). -/
theorem step_of_expired {s : State} {rest : List Event} (hs : s.sched = .core :: rest)
    (hp : s.phase ≠ .idle) (hx : s.tmrExp = true) :
    ∃ t, step s = .next t ∧ t.phase = .idle ∧ t.done = true := by
  have he := State.nextEvent_of_sched hs
  have hstep : step s = .next (poll s.startStep) := by
    rw [step, he, turn, coreTurn_busy (by simpa using hp)]
  rcases busy_step_cases hstep hp with ⟨-, hi, -, hd⟩ | ⟨hr, -⟩ | ⟨-, -, -, -, -, hcore, -⟩
  · exact ⟨_, hstep, hi, hd⟩
  · cases he.symm.trans hr
  · cases hx.symm.trans (hcore he).1

/-- Settles O52: the core's turn on an expired operation, and the end of a fair run's operation. -/
theorem expiredOperationCompletes : Obligations.ExpiredOperationCompletes :=
  ⟨fun _ _ => step_of_expired, fun _ _ _ hfair => hfair.completes⟩

end Sys2Proof.Machine

/-! ## Proofs: SEND_COMMAND and its reply (42_command_codec.md) -/

namespace Sys2Proof.Machine

/-! ### The encoder (R190) -/

/-- Different names have different words in a table of distinct words (R8). -/
theorem word_ne_of_ne {t : CmdTable} (h : t.Distinct) {c d : Cmd} (hne : c ≠ d) :
    t.word c ≠ t.word d :=
  fun heq => hne (List.inj_on_of_nodup_map h (Cmd.mem_all c) (Cmd.mem_all d) heq)

/-- The splice leaves every word but SET_FRAME_RATE and SET_BAUD_RATE as it is (R186). -/
theorem splice_of_noParam {t : CmdTable} {cmd : CmdWord} (hrate : cmd ≠ t.setFrameRate)
    (hbaud : cmd ≠ t.setBaudRate) (p : Param) (B : List Byte) : splice t cmd p B = B := by
  rw [splice, if_neg (by exact hrate), if_neg (by exact hbaud)]

theorem encodePacket_of_noParam {t : CmdTable} {cmd : CmdWord} (hrate : cmd ≠ t.setFrameRate)
    (hbaud : cmd ≠ t.setBaudRate) (p q : Param) : encodePacket t cmd p = encodePacket t cmd q := by
  simp only [encodePacket, splice_of_noParam hrate hbaud]

/-- A parameter of two bytes is their value (R184). -/
theorem param_of_bytes {p : Param} (h : p.extractLsb' 16 8 = 0) :
    (p.extractLsb' 8 8).toNat * 256 + (p.extractLsb' 0 8).toNat = p.toNat := by
  have hlt := p.isLt
  have hhi : p.toNat >>> 16 % 2 ^ 8 = 0 := congrArg BitVec.toNat h
  simp only [BitVec.extractLsb'_toNat, Nat.shiftRight_eq_div_pow] at hhi ⊢
  omega

/-- Settles O27, from the packet's layout: its bytes but the last add up to the last. -/
theorem encodedPacketProperties : Obligations.EncodedPacketProperties := by
  intro t hvalid
  refine ⟨fun cmd p q hcmd => ?_, fun p hlengths hhi => ?_⟩
  · obtain ⟨hlen, h0, h1, h2, -, -, -, -, hsum⟩ := packetLayout t cmd p hvalid hcmd
    refine ⟨rfl, rfl, hlen, h0, h1, h2, ?_, fun hrate hbaud => ?_⟩
    · rw [List.dropLast_eq_take, hlen, ← sum8_toNat, List.getLastD_eq_getLast?,
        List.getLast?_eq_getElem?, hlen, hsum, Option.getD_some]
    · exact encodePacket_of_noParam hrate hbaud q p
  · have ⟨_, hwords, _⟩ := hvalid
    have hmem := Cmd.mem_all .setFrameRate
    have hcmd : CmdWord.WellFormed t.setFrameRate := hwords .setFrameRate hmem
    have hcl : cmdCl t.setFrameRate = 6 := (hlengths .setFrameRate hmem).2
    obtain ⟨-, -, -, -, h3, h4, -⟩ := packetLayout t t.setFrameRate p hvalid hcmd
    rw [hcl, if_pos (.inl rfl)] at h3 h4
    exact ⟨_, _, h3 (by decide), h4 (by decide), param_of_bytes hhi⟩

/-! ### Acceptance (R196 to R200) -/

/-- Settles O28: no reason speaks against the request, and its acceptance is written out. -/
theorem genericCommandAccepted : Obligations.GenericCommandAccepted := by
  intro cmd p s hp ho hcmd hparam P
  rw [exec_sendGeneric, request_accepted hp (checkSend_none_iff.2 ⟨ho, hcmd, hparam⟩),
    acceptSend_eq]

/-! ### One poll iteration (R201 to R208) -/

/-- The core's turn in SC_SYNC is a poll iteration of SEND_COMMAND (R47). -/
theorem coreTurn_scSync {s : State} (hp : s.phase = .scSync) :
    coreTurn s = .next (pollSend s) := by
  rw [coreTurn_busy (by simp [hp]), poll, hp]

theorem shiftReply_getElem (R : Vector Byte 11) (rl : Nat) (b : Byte) {i : Nat} (h : i < 11) :
    (shiftReply R rl b)[i] =
      if i + 1 < rl then R.toList.getD (i + 1) 0 else if i + 1 = rl then b else R[i] := by
  simp [shiftReply]

theorem shiftReply_below (R : Vector Byte 11) {rl : Nat} (b : Byte) {i : Nat} (h : i < 10)
    (hi : i + 1 < rl) : (shiftReply R rl b)[i] = R[i + 1] := by
  rw [shiftReply_getElem, if_pos hi, List.getD_eq_getElem _ _ (by rw [Vector.length_toList]; omega),
    Vector.getElem_toList]

theorem shiftReply_last (R : Vector Byte 11) {rl : Nat} (b : Byte) (h : rl ≠ 0) (h11 : rl ≤ 11) :
    (shiftReply R rl b)[rl - 1]? = some b := by
  rw [Vector.getElem?_eq_getElem (by omega), shiftReply_getElem, if_neg (by omega),
    if_pos (by omega)]

/-- Settles O36: every poll iteration, whatever its outcome, leaves the window after its shift. -/
theorem replyWindowShifts : Obligations.ReplyWindowShifts := by
  intro s t hp h0 h11 h
  rw [coreTurn_scSync hp, pollSend_frame] at h
  cases h
  refine ⟨fun b q hq => ?_, fun hq => ?_, rfl⟩
  · have h0 : s.rlen.toNat ≠ 0 := fun hz => h0 (BitVec.eq_of_toNat_eq hz)
    simp only [State.nextReply, hq]
    exact ⟨rfl, shiftReply_last _ b h0 h11, fun i hi => shiftReply_below _ b hi,
      fun i hi => shiftReply_beyond _ _ b ⟨i, hi⟩⟩
  · simp [State.nextReply, hq]

/-- Settles O37: without the header, the deadline decides. -/
theorem replyPollWithoutHeader : Obligations.ReplyPollWithoutHeader := by
  intro s W hp hW hh
  rw [coreTurn_scSync hp, pollSend_eq s hW, if_neg hh]

/-- Settles O38: with the header and a wrong sum, the deadline is not asked. -/
theorem replyPollChecksumFailure : Obligations.ReplyPollChecksumFailure := by
  intro s W hp hW h0 h1 hv
  rw [coreTurn_scSync hp, pollSend_eq s hW, if_pos ⟨h0, h1⟩, if_neg (Bool.eq_false_iff.1 hv)]

/-- Settles O39: the post-processing, whose first two cases exclude each other in a valid table. -/
theorem replyPollPostProcesses : Obligations.ReplyPollPostProcesses := by
  intro s W hp hvalid hW h0 h1 hv failed
  obtain ⟨hdistinct, -⟩ := hvalid
  rw [coreTurn_scSync hp, pollSend_eq s hW, if_pos ⟨h0, h1⟩, if_pos hv, postProcess_eq]
  by_cases hver : s.curCmd = s.cfg.table.getFirmwareVersion
  · have hne (c : Cmd) (hc : .getFirmwareVersion ≠ c) : s.curCmd ≠ s.cfg.table.word c :=
      hver.trans_ne (word_ne_of_ne hdistinct hc)
    have hok : ¬ failed := by
      rintro ⟨hc | hc | hc, -⟩
      · exact hne .softReset (by decide) hc
      · exact hne .hardReset (by decide) hc
      · exact hne .saveSettings (by decide) hc
    simp only [if_pos hver, if_neg hok]
  · by_cases hfailed : failed
    · rw [if_neg (by exact hver), if_pos (by exact hfailed), if_neg hver, if_pos hfailed,
        if_pos hfailed]
    · rw [if_neg (by exact hver), if_neg (by exact hfailed), if_neg hver, if_neg hfailed,
        if_neg hfailed]

/-! ### The search as a walk over its bytes (R210) -/

/-- The window of width `rl` after it receives some bytes, one after the other (R201). -/
def receiveReply (R : Vector Byte 11) (rl : Nat) (M : List Byte) : Vector Byte 11 :=
  M.foldl (fun R b => shiftReply R rl b) R

/-- The pair 5A, `rl` stands at index `j` of some bytes. -/
def ReplyHeaderAt (rl : Byte) (L : List Byte) (j : Nat) : Prop :=
  L[j]? = some 0x5A ∧ L[j + 1]? = some rl

theorem replyHeaderAt_drop {rl : Byte} {L : List Byte} {k j : Nat} :
    ReplyHeaderAt rl (L.drop k) j ↔ ReplyHeaderAt rl L (k + j) := by
  simp [ReplyHeaderAt, List.getElem?_drop, add_assoc]

theorem replyHeaderAt_take {rl : Byte} {L : List Byte} {k j : Nat} (h : j + 1 < k) :
    ReplyHeaderAt rl (L.take k) j ↔ ReplyHeaderAt rl L j := by
  rw [ReplyHeaderAt, ReplyHeaderAt, List.getElem?_take_of_lt (by omega), List.getElem?_take_of_lt h]

section
variable {rl : Nat} (h1 : 1 ≤ rl) (h11 : rl ≤ 11)
include h1 h11

theorem shiftReply_toList (R : Vector Byte 11) (b : Byte) :
    (shiftReply R rl b).toList = (R.toList.take rl ++ [b]).drop 1 ++ R.toList.drop rl := by
  refine List.ext_getElem (by simp; omega) fun i hi _ => ?_
  rw [Vector.length_toList] at hi
  rw [Vector.getElem_toList, shiftReply_getElem]
  split_ifs with hbelow hlast
  · rw [List.getElem_append_left (by simp; omega), List.getElem_drop,
      List.getElem_append_left (by simp; omega), List.getElem_take,
      List.getD_eq_getElem _ _ (by simp; omega)]
    simp only [Nat.add_comm]
  · rw [List.getElem_append_left (by simp; omega), List.getElem_drop,
      List.getElem_append_right (by simp; omega), List.getElem_singleton]
  · rw [List.getElem_append_right (by simp; omega), List.getElem_drop, Vector.getElem_toList]
    congr 1
    simp
    omega

/-- The window after some bytes is its last `rl` bytes of those it held and those it received. -/
theorem receiveReply_window (R : Vector Byte 11) (M : List Byte) :
    (receiveReply R rl M).toList.take rl = (R.toList.take rl ++ M).drop M.length := by
  induction M generalizing R with
  | nil => simp [receiveReply]
  | cons b M ih =>
    have hstep : (shiftReply R rl b).toList.take rl = (R.toList.take rl ++ [b]).drop 1 := by
      rw [shiftReply_toList h1 h11, List.take_left' (by simp; omega)]
    calc (receiveReply R rl (b :: M)).toList.take rl
        = ((R.toList.take rl ++ [b]).drop 1 ++ M).drop M.length := by
          rw [← hstep, ← ih]; rfl
      _ = (R.toList.take rl ++ b :: M).drop (b :: M).length := by
        rw [← List.drop_append_of_le_length (by simp), List.drop_drop, List.append_assoc]
        simp [Nat.add_comm]

theorem receiveReply_beyond (R : Vector Byte 11) (M : List Byte) :
    (receiveReply R rl M).toList.drop rl = R.toList.drop rl := by
  induction M generalizing R with
  | nil => rfl
  | cons b M ih =>
    calc (receiveReply R rl (b :: M)).toList.drop rl
        = (shiftReply R rl b).toList.drop rl := ih _
      _ = R.toList.drop rl := by
        rw [shiftReply_toList h1 h11, List.drop_left' (by simp; omega)]

end

/-- The reply header test reads the window in use only. -/
theorem replyHeader_iff_window {rl : Byte} (h : 2 ≤ rl.toNat) (W : Vector Byte 11) :
    replyHeader W rl = true ↔ ReplyHeaderAt rl (W.toList.take rl.toNat) 0 := by
  rw [replyHeader_iff, replyHeaderAt_take h]
  simp [ReplyHeaderAt]

theorem not_replyHeaderAt_zeros {rl : Byte} {q : List Byte} {n j : Nat} (h : j < n) :
    ¬ ReplyHeaderAt rl (List.replicate n 0 ++ q) j := by
  rw [ReplyHeaderAt, List.getElem?_append_left (by simpa using h), List.getElem?_replicate_of_lt h]
  simp

/-- From a fresh window a header is found among the bytes received, and not before `rl` of them are. -/
theorem replyHeader_of_fresh {rl : Byte} (h2 : 2 ≤ rl.toNat) (h11 : rl.toNat ≤ 11) {L : List Byte}
    {k : Nat} (hk : k ≤ L.length) :
    replyHeader (receiveReply (Vector.replicate 11 0) rl.toNat (L.take k)) rl = true ↔
      rl.toNat ≤ k ∧ ReplyHeaderAt rl L (k - rl.toNat) := by
  rw [replyHeader_iff_window h2, receiveReply_window (by omega) h11, Vector.toList_replicate,
    List.take_replicate, min_eq_left h11, List.length_take_of_le hk, replyHeaderAt_drop, add_zero]
  by_cases hfull : k < rl.toNat
  · exact iff_of_false (not_replyHeaderAt_zeros hfull) (by omega)
  · obtain ⟨i, rfl⟩ := Nat.exists_eq_add_of_le (Nat.le_of_not_lt hfull)
    rw [← replyHeaderAt_drop, List.drop_left' (by simp), replyHeaderAt_take (by omega)]
    simp

/-- A reply search whose deadline has not expired, with the bytes and the turns it has before it. -/
structure State.ReplySearch (s : State) (q : List Byte) (sched : List Event) : Prop where
  phase : s.phase = .scSync
  tmrExp : s.tmrExp = false
  rxq : s.rxq = q
  sched : s.sched = sched

/-- The core's next turn in SC_SYNC, from the start of the step. -/
theorem step_scSync {s : State} {more : List Event} (hs : s.sched = .core :: more)
    (hp : s.phase = .scSync) :
    step s = .next (pollSend
      { s with sched := more, done := false, reqRefused := false, strobes := {} }) := by
  rw [step_of_sched hs, turn, coreTurn_scSync (by exact hp)]

/-- A poll iteration that finds no header before the deadline expires goes on. -/
theorem State.ReplySearch.step_search {s : State} {b : Byte} {q : List Byte} {more : List Event}
    (h : s.ReplySearch (b :: q) (.core :: more))
    (hh : replyHeader (shiftReply s.reply s.rlen.toNat b) s.rlen = false) :
    ∃ t, step s = .next t ∧ t.done = false ∧ t.ReplySearch q more ∧ t.rlen = s.rlen ∧
      t.reply = shiftReply s.reply s.rlen.toNat b := by
  have hW : s.nextReply = shiftReply s.reply s.rlen.toNat b := by simp [State.nextReply, h.rxq]
  rw [← hW, Bool.eq_false_iff, Ne, replyHeader_iff] at hh
  rw [step_scSync h.sched h.phase, pollSend_eq _ (W := s.nextReply) (by rfl), if_neg hh,
    if_neg (by simp [h.tmrExp])]
  exact ⟨_, rfl, rfl, ⟨h.phase, h.tmrExp, congrArg List.tail h.rxq, rfl⟩, rfl, hW⟩

/-- Turns of the core on waiting bytes that give no header complete nothing. -/
theorem State.ReplySearch.run {M q : List Byte} {more : List Event} {s : State}
    (h : s.ReplySearch (M ++ q) (List.replicate M.length .core ++ more))
    (hh : ∀ k < M.length,
      replyHeader (receiveReply s.reply s.rlen.toNat (M.take (k + 1))) s.rlen = false) :
    ∃ t, (∀ m, runTrace (M.length + m) s = runTrace m t) ∧ t.ReplySearch q more ∧
      t.rlen = s.rlen ∧ t.reply = receiveReply s.reply s.rlen.toNat M := by
  induction M generalizing s with
  | nil => exact ⟨s, fun m => by simp, h, rfl, rfl⟩
  | cons b M ih =>
    obtain ⟨u, hu, hd, hsearch, hlen, hreply⟩ :=
      h.step_search (hh 0 (by simp))
    obtain ⟨t, ht, hsearch', hlen', hreply'⟩ := ih hsearch fun k hk => by
      rw [hlen, hreply]
      exact hh (k + 1) (by simpa using hk)
    refine ⟨t, fun m => ?_, hsearch', hlen'.trans hlen, ?_⟩
    · rw [List.length_cons, Nat.add_right_comm, runTrace_of_step hu hd, ht]
    · rw [hreply', hlen, hreply]
      rfl

/-- A poll iteration that finds the header completes, with CHECKSUM_FAILURE exactly on a wrong
checksum (R204, R205). -/
theorem pollSend_match {s : State} (hh : replyHeader s.nextReply s.rlen = true) :
    (pollSend s).done = true ∧ (pollSend s).phase = .idle ∧
      ((pollSend s).status = .checksumFailure ↔ replyValid s.nextReply s.rlen.toNat = false) := by
  rcases pollSend_outcomes s with ⟨-, hv, -, e⟩ | ⟨-, hv, -, -, -, e⟩ | ⟨-, hv, -, -, e⟩ |
    ⟨-, hv, e⟩ | ⟨hno, -⟩ | ⟨hno, -⟩
  iterate 4
    · rw [e, hv]
      simp
  iterate 2
    · rw [hh] at hno
      cases hno

/-- The core's turn that receives the byte which completes a header. -/
theorem State.ReplySearch.step_match {s : State} {b : Byte} {q : List Byte} {more : List Event}
    (h : s.ReplySearch (b :: q) (.core :: more))
    (hh : replyHeader (shiftReply s.reply s.rlen.toNat b) s.rlen = true) :
    ∃ t, step s = .next t ∧ t.done = true ∧ t.phase = .idle ∧ t.rxq = q ∧ t.sched = more ∧
      t.reply = shiftReply s.reply s.rlen.toNat b ∧
      (t.status = .checksumFailure ↔ replyValid t.reply s.rlen.toNat = false) := by
  have hW : s.nextReply = shiftReply s.reply s.rlen.toNat b := by simp [State.nextReply, h.rxq]
  obtain ⟨hdone, hidle, hstatus⟩ := pollSend_match
    (s := { s with sched := more, done := false, reqRefused := false, strobes := {} })
    (by rw [← hW] at hh; exact hh)
  refine ⟨_, step_scSync h.sched h.phase, hdone, hidle, ?_, ?_, ?_, ?_⟩
  · rw [pollSend_frame]
    exact congrArg List.tail h.rxq
  · rw [pollSend_frame]
  · rw [pollSend_frame]
    exact hW
  · rw [hstatus, pollSend_frame]

/-- Settles O40: the windows before byte `i + rl - 1` is popped do not start with the pair, and the one
it gives does. -/
theorem firstReplyPairWins : Obligations.FirstReplyPairWins := by
  intro s i more hp hfresh hx h3 h11 h0 h1 hlen hfirst hs
  obtain ⟨n, hn⟩ : ∃ n, i + s.rlen.toNat = n + 1 := ⟨i + s.rlen.toNat - 1, by omega⟩
  rw [hn] at hlen hs ⊢
  have hM : (s.rxq.take n).length = n := List.length_take_of_le (by omega)
  have hheader {k : Nat} (hk : k ≤ n) :
      replyHeader (receiveReply s.reply s.rlen.toNat (s.rxq.take (k + 1))) s.rlen = true ↔
        s.rlen.toNat ≤ k + 1 ∧ ReplyHeaderAt s.rlen s.rxq (k + 1 - s.rlen.toNat) := by
    rw [hfresh, replyHeader_of_fresh (by omega) h11 (by omega)]
  rw [List.replicate_succ', List.append_assoc] at hs
  have hstart : s.ReplySearch (s.rxq.take n ++ s.rxq[n] :: s.rxq.drop (n + 1))
      (List.replicate (s.rxq.take n).length .core ++ .core :: more) :=
    ⟨hp, hx, by simp, by rw [hM]; exact hs⟩
  obtain ⟨u, hrun, hsearch, hrlen, hreply⟩ := hstart.run fun k hk => by
    rw [List.take_take, min_eq_left (by omega), Bool.eq_false_iff, Ne, hheader (by omega)]
    rintro ⟨hrl, hh⟩
    exact hfirst _ (by omega) hh
  have hlast : shiftReply u.reply u.rlen.toNat s.rxq[n] =
      receiveReply s.reply s.rlen.toNat (s.rxq.take (n + 1)) := by
    rw [hrlen, hreply, List.take_succ_eq_append_getElem (by omega), receiveReply, receiveReply,
      List.foldl_concat]
  have hmatch : replyHeader (shiftReply u.reply u.rlen.toNat s.rxq[n]) u.rlen = true := by
    rw [hlast, hrlen, hheader le_rfl, ← hn, Nat.add_sub_cancel]
    exact ⟨by omega, h0, h1⟩
  obtain ⟨t, hstep, hdone, hidle, hrxq, hst, hwindow, hstatus⟩ := hsearch.step_match hmatch
  rw [hM] at hrun
  refine ⟨t, by rw [hrun 1, runTrace_of_completion hstep hdone], hidle, hrxq, hst, ?_,
    by rw [hstatus, hrlen]⟩
  rw [hwindow, hlast, ← List.take_append_drop s.rlen.toNat (Vector.toList _),
    receiveReply_window (by omega) h11, receiveReply_beyond (by omega) h11, hfresh,
    Vector.toList_replicate, List.take_replicate, min_eq_left h11, List.drop_replicate,
    List.length_take_of_le hlen, ← hn, Nat.add_comm i, ← List.drop_drop,
    List.drop_left' (by simp), List.drop_take, Nat.add_sub_cancel]

end Sys2Proof.Machine

/-! ## Proofs: the named commands (43_commands.md) -/

namespace Sys2Proof.Machine

/-! ### The words of a table with the source's lengths (R99) -/

section
variable {t : CmdTable} (hl : t.SourceLengths)
include hl

theorem cmdRl_word (c : Cmd) : cmdRl (t.word c) = c.lengths.1 := (hl c (Cmd.mem_all c)).1

theorem cmdCl_word (c : Cmd) : cmdCl (t.word c) = c.lengths.2 := (hl c (Cmd.mem_all c)).2

/-- Words of different command lengths differ; the table need not be one of distinct words. -/
theorem word_ne_of_cl {c d : Cmd} (hne : c.lengths.2 ≠ d.lengths.2) : t.word c ≠ t.word d :=
  fun heq => hne (by rw [← cmdCl_word hl, ← cmdCl_word hl, heq])

/-! ### Their packets (R95) -/

/-- The packet of a named command, from its eight spliced bytes (R187 to R189). -/
theorem encodePacket_word {c : Cmd} {p : Param} {B : List Byte}
    (hB : splicedBytes t (t.word c) p = B) :
    (encodePacket t (t.word c) p).packet =
      (B.take c.lengths.2.toNat).set (c.lengths.2.toNat - 1)
        (sum8 (B.take (c.lengths.2.toNat - 1))) := by
  have ⟨⟨hlo, _⟩, _⟩ := wellFormed_of_lengths (hl c (Cmd.mem_all c))
  rw [encodePacket_packet _ _ _ hlo, hB, cmdCl_word hl]

/-- Only SET_FRAME_RATE has a packet of six bytes and only SET_BAUD_RATE one of eight, so a shorter
one carries no parameter (R186). -/
theorem splicedBytes_word_short {c : Cmd} (hc : c.lengths.2.toNat < 6) (p : Param) :
    splicedBytes t (t.word c) p =
      [0x5A, c.lengths.2, cmdId (t.word c), cmdArg (t.word c), 0, 0, 0, 0] := by
  have hrate : t.word c ≠ t.setFrameRate :=
    word_ne_of_cl hl (d := .setFrameRate) fun h => absurd hc (by rw [h]; decide)
  have hbaud : t.word c ≠ t.setBaudRate :=
    word_ne_of_cl hl (d := .setBaudRate) fun h => absurd hc (by rw [h]; decide)
  rw [splicedBytes, splice_of_noParam hrate hbaud, expand, cmdCl_word hl]
  rfl

theorem packet_of_cl_four {c : Cmd} (hc : c.lengths.2 = 4) (p : Param) :
    (encodePacket t (t.word c) p).packet =
      [0x5A, 0x04, cmdId (t.word c), 0x5E + cmdId (t.word c)] := by
  rw [encodePacket_word hl (splicedBytes_word_short hl (by rw [hc]; decide) p), hc]
  rfl

theorem packet_of_cl_five {c : Cmd} (hc : c.lengths.2 = 5) (p : Param) :
    (encodePacket t (t.word c) p).packet =
      [0x5A, 0x05, cmdId (t.word c), cmdArg (t.word c),
        0x5F + cmdId (t.word c) + cmdArg (t.word c)] := by
  rw [encodePacket_word hl (splicedBytes_word_short hl (by rw [hc]; decide) p), hc]
  rfl

/-- The splice of SET_FRAME_RATE reaches offsets 3 and 4 (R184). -/
theorem packet_setFrameRate (p : Param) :
    (encodePacket t (t.word .setFrameRate) p).packet =
      [0x5A, 0x06, cmdId t.setFrameRate, paramLo p, paramMid p,
        0x60 + cmdId t.setFrameRate + paramLo p + paramMid p] := by
  have hB : splicedBytes t (t.word .setFrameRate) p =
      [0x5A, 0x06, cmdId t.setFrameRate, paramLo p, paramMid p, 0, 0, 0] := by
    rw [splicedBytes, splice, if_pos rfl, expand, cmdCl_word hl]
    rfl
  exact encodePacket_word hl hB

/-- The splice of SET_BAUD_RATE reaches offsets 3 to 5 (R185). -/
theorem packet_setBaudRate (p : Param) :
    (encodePacket t (t.word .setBaudRate) p).packet =
      [0x5A, 0x08, cmdId t.setBaudRate, paramLo p, paramMid p, paramHi p, 0x00,
        0x62 + cmdId t.setBaudRate + paramLo p + paramMid p + paramHi p] := by
  have hne : t.word .setBaudRate ≠ t.word .setFrameRate := word_ne_of_cl hl (by decide)
  have hB : splicedBytes t (t.word .setBaudRate) p =
      [0x5A, 0x08, cmdId t.setBaudRate, paramLo p, paramMid p, paramHi p, 0, 0] := by
    rw [splicedBytes, splice, if_neg hne, if_pos rfl, expand, cmdCl_word hl]
    rfl
  rw [encodePacket_word hl hB]
  simp [Cmd.lengths, sum8]

end

/-! ### Acceptance by name (R196 to R200) -/

/-- The state after the acceptance of a word with a reply: the packet is sent and the search of
width `rl` starts from a zeroed window (R196, R197, R200). -/
def State.sent (s : State) (cmd : CmdWord) (P : List Byte) (rl : Byte) : State :=
  { s with curCmd := cmd, rxq := [], txq := P, strobes := (s.strobes.send P).start .deadline,
           reply := Vector.replicate 11 0, rlen := rl, tmr := .deadline, tmrExp := false,
           tmrPolls := 0, phase := .scSync }

theorem eq_setFrameRate_of_cl_six {c : Cmd} : c.lengths.2 = 6 → c = .setFrameRate := by
  cases c <;> decide

section
variable {s : State} {c : Cmd} {p : Param}
  (hp : s.phase = .idle) (ho : s.opened = true) (hl : s.cfg.table.SourceLengths)
include hp ho hl

/-- The port accepts every named command of these lengths; only SET_FRAME_RATE's parameter is
tested (R252). -/
theorem exec_named_accepted (hparam : c = .setFrameRate → paramHi p = 0) :
    exec (Instr.named c p) s = .next (acceptSend (s.cfg.table.word c) p s) := by
  have hrange : ¬ (s.cfg.table.word c = s.cfg.table.word .setFrameRate ∧ paramHi p ≠ 0) := by
    rintro ⟨hword, hhi⟩
    have hcl : c.lengths.2 = 6 := by rw [← cmdCl_word hl, hword, cmdCl_word hl]; rfl
    exact hhi (hparam (eq_setFrameRate_of_cl_six hcl))
  rw [exec_named, request_accepted hp
    (checkSend_none_iff.2 ⟨ho, wellFormed_of_lengths (hl c (Cmd.mem_all c)), hrange⟩)]

theorem exec_named_sent (hrl : c.lengths.1 ≠ 0) (hparam : c = .setFrameRate → paramHi p = 0) :
    exec (Instr.named c p) s = .next
      (s.sent (s.cfg.table.word c) (encodePacket s.cfg.table (s.cfg.table.word c) p).packet
        c.lengths.1) := by
  rw [exec_named_accepted hp ho hl hparam, acceptSend_eq, cmdRl_word hl, if_neg hrl]
  rfl

theorem exec_named_of_cl_four (hrl : c.lengths.1 ≠ 0) (hcl : c.lengths.2 = 4) :
    exec (Instr.named c p) s = .next
      (s.sent (s.cfg.table.word c)
        [0x5A, 0x04, cmdId (s.cfg.table.word c), 0x5E + cmdId (s.cfg.table.word c)]
        c.lengths.1) := by
  rw [exec_named_sent hp ho hl hrl (by rintro rfl; exact absurd hcl (by decide)),
    packet_of_cl_four hl hcl]

theorem exec_named_of_cl_five (hrl : c.lengths.1 ≠ 0) (hcl : c.lengths.2 = 5) :
    exec (Instr.named c p) s = .next
      (s.sent (s.cfg.table.word c)
        [0x5A, 0x05, cmdId (s.cfg.table.word c), cmdArg (s.cfg.table.word c),
          0x5F + cmdId (s.cfg.table.word c) + cmdArg (s.cfg.table.word c)]
        c.lengths.1) := by
  rw [exec_named_sent hp ho hl hrl (by rintro rfl; exact absurd hcl (by decide)),
    packet_of_cl_five hl hcl]

end

/-! ### The commands without a parameter (R220 to R224, R227 to R234) -/

/-- Settles O29: the command has a packet of four bytes and a reply. -/
theorem firmwareQuerySends : Obligations.FirmwareQuerySends := fun _ _ hp ho hl =>
  exec_named_of_cl_four (c := .getFirmwareVersion) hp ho hl (by decide) rfl

/-- Settles O30: a reply length of 0 completes the acceptance (R199). -/
theorem triggerCompletesAtOnce : Obligations.TriggerCompletesAtOnce := by
  intro p s hp ho hl cmd P
  have haccept := exec_named_accepted (c := .triggerDetection) (p := p) hp ho hl nofun
  have hrl : cmdRl (s.cfg.table.word .triggerDetection) = 0 := cmdRl_word hl _
  rw [acceptSend_eq, packet_of_cl_four hl rfl, if_pos hrl] at haccept
  exact haccept

/-- Settles O31: each of the three has a packet of four bytes and a reply. -/
theorem resetAndSaveSend : Obligations.ResetAndSaveSend := fun _ _ hp ho hl =>
  ⟨exec_named_of_cl_four (c := .softReset) hp ho hl (by decide) rfl,
    exec_named_of_cl_four (c := .hardReset) hp ho hl (by decide) rfl,
    exec_named_of_cl_four (c := .saveSettings) hp ho hl (by decide) rfl⟩

/-- Settles O34: each of the five has a packet of five bytes and a reply. -/
theorem formatAndOutputSend : Obligations.FormatAndOutputSend := fun _ _ hp ho hl =>
  ⟨exec_named_of_cl_five (c := .standardFormatCm) hp ho hl (by decide) rfl,
    exec_named_of_cl_five (c := .standardFormatMm) hp ho hl (by decide) rfl,
    exec_named_of_cl_five (c := .pixhawkFormat) hp ho hl (by decide) rfl,
    exec_named_of_cl_five (c := .enableOutput) hp ho hl (by decide) rfl,
    exec_named_of_cl_five (c := .disableOutput) hp ho hl (by decide) rfl⟩

/-- Settles O35: the packets are of five bytes, and the reply length is each word's own. -/
theorem addressAndModeSend : Obligations.AddressAndModeSend := fun _ _ hp ho hl =>
  ⟨exec_named_of_cl_five (c := .setI2cAddress) hp ho hl (by decide) rfl,
    exec_named_of_cl_five (c := .setSerialMode) hp ho hl (by decide) rfl,
    exec_named_of_cl_five (c := .setI2cMode) hp ho hl (by decide) rfl⟩

/-! ### The commands with a parameter (R225, R226) -/

theorem paramHi_eq_zero_iff (p : Param) : paramHi p = 0 ↔ p.toNat < 0x10000 := by
  have hlt := p.isLt
  rw [← BitVec.toNat_inj]
  change p.toNat >>> 16 % 2 ^ 8 = 0 ↔ _
  rw [Nat.shiftRight_eq_div_pow]
  omega

/-- A frame rate of three bytes fails SEND_COMMAND's last test, the others passed (R252). -/
theorem checkSend_paramRange {s : State} {p : Param} (ho : s.opened = true)
    (hl : s.cfg.table.SourceLengths) (hhi : paramHi p ≠ 0) :
    checkSend (s.cfg.table.word .setFrameRate) p s = some .paramRange := by
  simpa [checkSend, checkWord, ho, cmdCl_word hl, cmdRl_word hl, Cmd.lengths, Config.replyMax]
    using hhi

/-- Settles O32: the rate passes the port's last test or fails it (R252). -/
theorem setFrameRateSends : Obligations.SetFrameRateSends := by
  intro p s hp ho hl cmd lo hi P
  split_ifs with hrate
  · have hsent := exec_named_sent (c := .setFrameRate) hp ho hl (by decide)
      fun _ => (paramHi_eq_zero_iff p).2 hrate
    rw [packet_setFrameRate hl] at hsent
    exact hsent
  · have hhi : paramHi p ≠ 0 := fun h => hrate ((paramHi_eq_zero_iff p).1 h)
    exact request_refused hp (checkSend_paramRange ho hl hhi)

/-- Settles O33: no test reads the baud rate. -/
theorem setBaudRateSends : Obligations.SetBaudRateSends := by
  intro p s hp ho hl cmd lo mid hi P
  have hsent := exec_named_sent (c := .setBaudRate) (p := p) hp ho hl (by decide) nofun
  rw [packet_setBaudRate hl] at hsent
  exact hsent

end Sys2Proof.Machine

/-! ## Proofs: the request port, BEGIN and independence (44_facade.md) -/

namespace Sys2Proof.Machine

/-! ### The turns of RX, TXD and TIMER, written out -/

/-- RXQ after an arrival; none where the build refuses it (R40, decision D31). -/
def rxqAfter (cfg : Params) (q : List Byte) (b : Byte) : Option (List Byte) :=
  match cfg.rxCap with
  | none => some (q ++ [b])
  | some cap =>
    if q.length < cap then some (q ++ [b])
    else match cfg.rxFull with
      | .refuse => none
      | .dropNewest => some q
      | .dropOldest => some ((q ++ [b]).drop (q.length + 1 - cap))

/-- An arrival reads and writes RXQ, and reads the parameters (R40). -/
theorem rxTurn_eq (b : Byte) (s : State) :
    rxTurn b s =
      (rxqAfter s.cfg s.rxq b).elim (.refused .rxOverflow) fun q => .next { s with rxq := q } := by
  unfold rxTurn rxqAfter State.rxCount
  cases s.cfg.rxCap with
  | none => rfl
  | some cap =>
    dsimp only
    split_ifs
    · rfl
    · cases s.cfg.rxFull <;> rfl

theorem txdTurn_eq (s : State) :
    txdTurn s = { s with txq := s.txq.tail, wire := s.wire ++ s.txq.take 1 } := by
  rcases txdTurn_cases s with ⟨hq, e⟩ | ⟨b, q, hq, e⟩ <;> rw [e]
  · rw [hq, List.tail_nil, List.take_nil, List.append_nil, ← hq]
  · simp [hq]

theorem timerTurn_eq (s : State) :
    timerTurn s = { s with tmrExp := s.timerEnabled || s.tmrExp } := by
  rcases timerTurn_cases s with ⟨hen, e⟩ | ⟨hen, e⟩ <;> rw [e, hen] <;> rfl

/-! ### BEGIN (R259 to R263) -/

/-- Settles O13: no reason speaks against BEGIN at an idle port. -/
theorem beginAccepted : Obligations.BeginAccepted := by
  intro p cmd s hp
  rw [exec_beginOp, request_accepted hp rfl, acceptBegin_eq]

/-- The core's turn in BG_SETTLE is a poll iteration of BEGIN (R47). -/
theorem coreTurn_bgSettle {s : State} (hp : s.phase = .bgSettle) :
    coreTurn s = .next (pollBegin s) := by
  rw [coreTurn_busy (by simp [hp]), poll, hp]

/-- Settles O14, by the cases of the poll iteration. -/
theorem beginPollIteration : Obligations.BeginPollIteration := by
  intro s hp
  rw [coreTurn_bgSettle hp]
  rcases pollBegin_outcomes s with ⟨hx, e⟩ | ⟨hx, hq, e⟩ | ⟨hx, hq, e⟩ <;> rw [e]
  · rw [if_neg (Bool.eq_false_iff.1 hx)]
  · rw [if_pos hx, if_neg hq, if_neg hq]
  · rw [if_pos hx, if_pos hq, if_pos hq]

/-! ### The request at the port (R251 to R253) -/

/-- The acceptance step that the port's request calls for, once no reason speaks against it (R251). -/
def acceptPort (s : State) : State :=
  if reqOp s.reqWord = 1 then acceptBegin s
  else if reqOp s.reqWord = 2 then acceptGetData s
  else acceptSend (reqCmd s.reqWord) (reqParam s.reqWord) s

/-- The last code of a two-bit field. -/
theorem op_eq_three {op : BitVec 2} (h0 : op ≠ 0) (h1 : op ≠ 1) (h2 : op ≠ 2) : op = 3 := by
  revert op
  decide

/-- Two requests with the same tests and the same acceptance in a state do the same in it. -/
theorem request_congr {reason reason' : State → Option RefuseReason} {accept accept' : State → State}
    {s : State} (hr : reason s = reason' s) (ha : accept s = accept' s) :
    request reason accept s = request reason' accept' s := by
  simp [request, hr, ha]

/-- The decoder's tests and the requests' own are together the tests of R252 on the word. -/
theorem acceptRequest_eq_request {s : State} (hp : s.phase = .idle) :
    acceptRequest s =
      request (fun s => checkRequest s.cfg.table s.opened s.reqWord) acceptPort s.takeRequest := by
  have hp' : s.takeRequest.phase = .idle := hp
  unfold acceptRequest decode
  split_ifs with h0 hrsv h1 h2 <;> dsimp only
  · rw [exec_reservedOp0, request_refused hp' rfl, request_refused hp' (if_pos h0)]
  · rw [request_refused hp' ((if_neg h0).trans (if_pos hrsv))]
  · rw [exec_beginOp]
    exact request_congr (by simp [checkRequest, not_not.1 hrsv, h1]) (by simp [acceptPort, h1])
  · rw [exec_getData]
    refine request_congr ?_ (by simp [acceptPort, h2])
    cases ho : s.opened <;> simp [checkRequest, checkOpen, not_not.1 hrsv, h2, ho]
  · have h3 := op_eq_three h0 h1 h2
    rw [show s.cfg = s.takeRequest.cfg from rfl, exec_ofSend]
    refine request_congr ?_ (by simp [acceptPort, h3])
    cases ho : s.opened <;> simp [checkRequest, checkSend, not_not.1 hrsv, h3, ho]

/-- An idle core's turn on a presented request is that request, tested as R252 says. -/
theorem coreTurn_request {s : State} (hp : s.phase = .idle) (hv : s.reqValid = true) :
    coreTurn s =
      request (fun s => checkRequest s.cfg.table s.opened s.reqWord) acceptPort s.takeRequest := by
  rw [coreTurn, if_pos hp, if_pos hv, acceptRequest_eq_request hp]

/-- SEND_COMMAND's tests on the word, in numbers (R97, R98, R252). -/
theorem checkWord_eq (t : CmdTable) (cmd : CmdWord) (p : Param) :
    checkWord t cmd p =
      if (cmdCl cmd).toNat < 3 ∨ 8 < (cmdCl cmd).toNat then some .cmdLen
      else if (cmdRl cmd).toNat = 1 ∨ (cmdRl cmd).toNat = 2 ∨ 11 < (cmdRl cmd).toNat then
        some .replyLen
      else if cmd = t.setFrameRate ∧ paramHi p ≠ 0 then some .paramRange
      else none := by
  have hrl : ∀ b : Byte, (b = 1 ∨ b = 2) ∨ Config.replyMax < b.toNat ↔
      b.toNat = 1 ∨ b.toNat = 2 ∨ 11 < b.toNat := by decide
  unfold checkWord
  simp only [hrl]
  rfl

/-- PARAM[23:16] in the request word (R90, R97). -/
theorem paramHi_reqParam (w : ReqWord) : paramHi (reqParam w) = w.extractLsb' 24 8 := by
  unfold paramHi reqParam
  ext i hi
  simp
  grind

/-- R252's list as one chain of tests, in numbers. -/
theorem checkRequest_eq (t : CmdTable) (opened : Bool) (w : ReqWord) :
    checkRequest t opened w =
      let cl := (cmdCl (reqCmd w)).toNat
      let rl := (cmdRl (reqCmd w)).toNat
      let op := (reqOp w).toNat
      if op = 0 then some .noOp
      else if reqRsv w ≠ 0 then some .rsvBits
      else if (op = 2 ∨ op = 3) ∧ opened = false then some .notOpen
      else if op = 3 ∧ (cl < 3 ∨ 8 < cl) then some .cmdLen
      else if op = 3 ∧ (rl = 1 ∨ rl = 2 ∨ 11 < rl) then some .replyLen
      else if op = 3 ∧ reqCmd w = t.setFrameRate ∧ w.extractLsb' 24 8 ≠ 0 then some .paramRange
      else none := by
  have hop : ∀ op : BitVec 2, op = 0 ∨ op = 1 ∨ op = 2 ∨ op = 3 := by decide
  unfold checkRequest
  rw [checkWord_eq, paramHi_reqParam]
  rcases hop (reqOp w) with h | h | h | h <;> simp [h]

/-- An idle core with no request does nothing (log 4). -/
theorem coreTurn_of_noRequest {s : State} (hp : s.phase = .idle) (hv : s.reqValid = false) :
    coreTurn s = .next s := by
  rw [coreTurn, if_pos hp, if_neg (Bool.eq_false_iff.1 hv)]

/-- Settles O4: from the start of the step, an idle core's turn is the acceptance of the request at its
port, or nothing. -/
theorem stepRunsDecodedRequest : Obligations.StepRunsDecodedRequest := by
  intro s rest hs hp
  rw [step_of_sched hs, turn]
  refine ⟨fun i hv hd => ?_, fun hv => coreTurn_of_noRequest hp hv⟩
  rw [coreTurn, if_pos hp, if_pos hv, acceptRequest, hd]
  rfl

/-! ### The refusal mark (R253) -/

/-- The step to `t` neither refuses a request nor writes the mark. -/
def State.NotRefused (s t : State) : Prop :=
  t.reqRefused = s.reqRefused ∧ t.refusalMark = s.refusalMark

theorem acceptBegin_notRefused (s : State) : s.NotRefused (acceptBegin s) := by
  rw [acceptBegin_eq]
  split <;> exact ⟨rfl, rfl⟩

theorem acceptGetData_notRefused (s : State) : s.NotRefused (acceptGetData s) := by
  rw [acceptGetData_eq]
  exact ⟨rfl, rfl⟩

theorem acceptSend_notRefused (cmd : CmdWord) (p : Param) (s : State) :
    s.NotRefused (acceptSend cmd p s) := by
  rw [acceptSend_eq]
  split <;> exact ⟨rfl, rfl⟩

theorem acceptPort_notRefused (s : State) : s.NotRefused (acceptPort s) := by
  unfold acceptPort
  split_ifs
  · exact acceptBegin_notRefused s
  · exact acceptGetData_notRefused s
  · exact acceptSend_notRefused _ _ s

theorem poll_notRefused (s : State) : s.NotRefused (poll s) := by
  cases h : s.phase with
  | idle => rw [poll, h]; exact ⟨rfl, rfl⟩
  | gdSync => rw [poll, h, pollGetData_frame]; exact ⟨rfl, rfl⟩
  | scSync => rw [poll, h, pollSend_frame]; exact ⟨rfl, rfl⟩
  | bgSettle => rw [poll, h, pollBegin_frame]; exact ⟨rfl, rfl⟩

/-- Settles O5: an idle core's turn is a request tested as R252 says, and no acceptance step writes the
mark. -/
theorem portRefusesFirstReason : Obligations.PortRefusesFirstReason := by
  intro s rest hs hp hv w cmd cl rl op reason
  have hreason : checkRequest s.cfg.table s.opened w = reason := checkRequest_eq _ _ _
  rw [step_of_sched hs, turn, coreTurn_request (by exact hp) (by exact hv)]
  cases hr : reason with
  | none =>
    rw [request_accepted (by exact hp) (hreason.trans hr)]
    exact ⟨_, rfl, nofun, fun _ => acceptPort_notRefused _⟩
  | some r =>
    rw [request_refused (by exact hp) (hreason.trans hr)]
    refine ⟨_, rfl, ?_, nofun⟩
    rintro r ⟨⟩
    rfl

theorem rxTurn_refusalMark {b : Byte} {s t : State} (h : rxTurn b s = .next t) :
    t.refusalMark = s.refusalMark := by
  rcases rxTurn_cases b s with ⟨e, -⟩ | ⟨_, -, -, ⟨-, e⟩ | ⟨-, e⟩ | ⟨-, e⟩⟩ <;> rw [e] at h <;>
    cases h <;> rfl

theorem coreTurn_keeps_mark {s t : State} (h : coreTurn s = .next t)
    (hm : s.refusalMark.isSome = true) : t.refusalMark.isSome = true := by
  by_cases hp : s.phase = .idle
  · cases hv : s.reqValid with
    | false =>
      rw [coreTurn_of_noRequest hp hv] at h
      cases h
      exact hm
    | true =>
      rw [coreTurn_request hp hv] at h
      rcases request_cases h with ⟨hb, -⟩ | ⟨-, r, -, rfl⟩ | ⟨-, -, rfl⟩
      · exact absurd hp hb
      · rfl
      · rw [(acceptPort_notRefused _).2]
        exact hm
  · rw [coreTurn_busy hp] at h
    cases h
    rw [(poll_notRefused s).2]
    exact hm

/-- Settles O6: a refusal and a host's write set the mark, and every other turn but a core reset keeps
it. -/
theorem refusalMarkIsSticky : Obligations.RefusalMarkIsSticky := by
  intro s t hr hm h
  rw [← s.startStep_refusalMark] at hm
  rcases step_cases h with ⟨-, h⟩ | ⟨_, -, h⟩ | ⟨-, rfl⟩ | ⟨-, rfl⟩ | ⟨_, -, rfl⟩ | ⟨_, -, rfl⟩ |
    ⟨_, -, rfl⟩ | ⟨_, _, -, rfl⟩ | ⟨he, -⟩
  · exact coreTurn_keeps_mark h hm
  · rw [rxTurn_refusalMark h]
    exact hm
  · rw [txdTurn_eq]
    exact hm
  · rw [timerTurn_eq]
    exact hm
  · exact hm
  · exact hm
  · exact hm
  · rfl
  · exact absurd he hr

/-! ### Independence (R254) -/

/-- From two states `s` and `t`, the states `r` and `u` have been reached alike: they differ at most in
what earlier operations left behind, and what the step did so far is the same in both. -/
structure State.AlikeSince (s t r u : State) : Prop where
  same : r.SameButResults u
  strobes : r.strobes = u.strobes
  done : r.done = u.done
  outcome : r.done = true → r.status = u.status ∧ r.ok = u.ok
  frame : s.phase = .gdSync → r.frame = u.frame
  measurement : s.phase = .gdSync → r.done = true → r.status ≠ .headerTimeout →
    r.status ≠ .checksumFailure → r.dist = u.dist ∧ r.flux = u.flux ∧ r.temp = u.temp
  reply : s.phase = .scSync → r.reply = u.reply ∧ r.rlen = u.rlen
  txq : s.txq = t.txq → r.txq = u.txq
  begun : s.begun = t.begun → r.begun = u.begun

/-- The start of a step leaves nothing of the outputs by which two states could differ (R46). -/
theorem State.SameButResults.startStep {s t : State} (h : s.SameButResults t) :
    State.AlikeSince s t s.startStep t.startStep where
  same := by
    unfold State.startStep
    rw [← h.sched]
    split
    · exact { h with sched := rfl }
    · exact { h with sched := rfl, tick := congrArg (· + 1) h.tick }
  strobes := by simp
  done := by simp
  outcome := by simp
  frame := by simpa using h.frame
  measurement := by simp
  reply hp := by simpa using ⟨(h.reply hp).1, (h.reply hp).2.1⟩
  txq := by simp
  begun := by simp

section
variable {s t r u : State} (h : s.AlikeSince t r u)
include h

/-- A completion gives both the same outcome, and after it no operation searches a window or reads the
timer (R256; log 27). -/
theorem State.AlikeSince.complete {st : Status}
    (hm : s.phase = .gdSync → st ≠ .headerTimeout → st ≠ .checksumFailure →
      r.dist = u.dist ∧ r.flux = u.flux ∧ r.temp = u.temp) :
    s.AlikeSince t (r.complete st) (u.complete st) :=
  { h with
    same := { h.same with
      phase := rfl, frame := nofun, reply := nofun, tmr := rfl, timerState := absurd rfl }
    done := rfl
    outcome := fun _ => ⟨rfl, rfl⟩
    measurement := fun hp _ => hm hp }

/-- A completion of another operation than GET_DATA says nothing of the measurement. -/
theorem State.AlikeSince.completeOutside (hs : s.phase ≠ .gdSync) {st : Status} :
    s.AlikeSince t (r.complete st) (u.complete st) :=
  h.complete fun hp => absurd hp hs

theorem State.AlikeSince.countPoll : s.AlikeSince t r.countPoll u.countPoll :=
  { h with
    same := { h.same with
      timerState := fun hp =>
        ⟨(h.same.timerState hp).1, congrArg (· + 1) (h.same.timerState hp).2⟩ } }

/-! #### The poll iterations: equal windows meet equal tests -/

theorem State.AlikeSince.receiveFrameByte (hp : r.phase = .gdSync) :
    s.AlikeSince t r.receiveFrameByte u.receiveFrameByte := by
  have hW : r.nextFrame = u.nextFrame := by
    rw [State.nextFrame, State.nextFrame, h.same.rxq, h.same.frame hp]
  rw [State.receiveFrameByte_eq, State.receiveFrameByte_eq]
  exact { h with
    same := { h.same with frame := fun _ => hW, rxq := congrArg List.tail h.same.rxq }
    strobes := congrArg₂ Strobes.pop h.strobes h.same.rxq
    frame := fun _ => hW }

/-- Equal windows decode to equal measurements (R149). -/
theorem State.AlikeSince.completeFrame (hf : r.frame = u.frame) :
    s.AlikeSince t
      (r.decodeFrame.complete (override (frameDist r.frame) (frameFlux r.frame)))
      (u.decodeFrame.complete (override (frameDist r.frame) (frameFlux r.frame))) := by
  have hm : r.decodeFrame.dist = u.decodeFrame.dist ∧ r.decodeFrame.flux = u.decodeFrame.flux ∧
      r.decodeFrame.temp = u.decodeFrame.temp := by simp [State.decodeFrame, hf]
  have hd : s.AlikeSince t r.decodeFrame u.decodeFrame :=
    { h with same := { h.same with }, measurement := fun _ _ _ _ => hm }
  exact hd.complete fun _ _ _ => hm

theorem State.AlikeSince.pollGetData (hp : r.phase = .gdSync) :
    s.AlikeSince t (pollGetData r) (pollGetData u) := by
  have hr := h.countPoll.receiveFrameByte hp
  have hframe := hr.same.frame (by simpa using hp)
  have hx := (hr.same.timerState (by simp [hp])).1
  unfold Machine.pollGetData State.expired
  simp only [← hframe, ← hx]
  split_ifs
  · simpa [hframe] using hr.completeFrame hframe
  · exact hr.complete (by simp)
  · exact hr.complete (by simp)
  · exact hr

theorem State.AlikeSince.receiveReplyByte (hp : r.phase = .scSync) :
    s.AlikeSince t r.receiveReplyByte u.receiveReplyByte := by
  obtain ⟨hreply, hrlen, hcmd⟩ := h.same.reply hp
  have hW : r.nextReply = u.nextReply := by
    rw [State.nextReply, State.nextReply, h.same.rxq, hreply, hrlen]
  rw [State.receiveReplyByte_eq, State.receiveReplyByte_eq]
  exact { h with
    same := { h.same with reply := fun _ => ⟨hW, hrlen, hcmd⟩, rxq := congrArg List.tail h.same.rxq }
    strobes := congrArg₂ Strobes.pop h.strobes h.same.rxq
    reply := fun _ => ⟨hW, hrlen⟩ }

theorem State.AlikeSince.postProcess (hs : s.phase = .scSync) (hp : r.phase = .scSync) :
    s.AlikeSince t r.postProcess u.postProcess := by
  obtain ⟨hreply, hrlen, hcmd⟩ := h.same.reply hp
  have hchecked : r.failureChecked = u.failureChecked := by
    simp only [State.failureChecked, hcmd, h.same.cfg]
  unfold State.postProcess
  rw [← hchecked, ← hcmd, ← h.same.cfg, ← hreply]
  split_ifs
  · refine State.AlikeSince.completeOutside ?_ (by simp [hs])
    exact { h with
      same := { h.same with reply := fun _ => ⟨rfl, hrlen, rfl⟩, cfg := rfl }
      reply := fun _ => ⟨rfl, hrlen⟩ }
  · exact h.completeOutside (by simp [hs])
  · exact h.completeOutside (by simp [hs])

theorem State.AlikeSince.pollSend (hs : s.phase = .scSync) (hp : r.phase = .scSync) :
    s.AlikeSince t (pollSend r) (pollSend u) := by
  have hr := h.countPoll.receiveReplyByte hp
  have hp' : r.countPoll.receiveReplyByte.phase = .scSync := by simpa using hp
  obtain ⟨hreply, hrlen, -⟩ := hr.same.reply hp'
  have hx := (hr.same.timerState (by simp [hp])).1
  unfold Machine.pollSend State.expired
  simp only [← hreply, ← hrlen, ← hx]
  split_ifs
  · exact hr.postProcess hs hp'
  · exact hr.complete (by simp)
  · exact hr.complete (by simp)
  · exact hr

theorem State.AlikeSince.completeBegin (hs : s.phase ≠ .gdSync) {st : Status} :
    s.AlikeSince t (r.completeBegin st) (u.completeBegin st) := by
  have hb : s.AlikeSince t { r with begun := true } { u with begun := true } :=
    { h with same := { h.same with }, begun := fun _ => rfl }
  exact hb.completeOutside hs

theorem State.AlikeSince.pollBegin (hs : s.phase ≠ .gdSync) (hp : r.phase = .bgSettle) :
    s.AlikeSince t (pollBegin r) (pollBegin u) := by
  have hr := h.countPoll
  have hx := (hr.same.timerState (by simp [hp])).1
  unfold Machine.pollBegin State.expired State.rxCount
  simp only [← hr.same.rxq, ← hx]
  split_ifs
  · exact hr.completeBegin hs
  · exact hr.completeBegin hs
  · exact hr

/-! #### The acceptance steps: each starts from the port and the queue alone -/

theorem State.AlikeSince.acceptBegin (hs : s.phase ≠ .gdSync) :
    s.AlikeSince t (acceptBegin r) (acceptBegin u) := by
  cases hx : r.xportOk with
  | false =>
    have hopened : s.AlikeSince t { r with opened := false } { u with opened := false } :=
      { h with same := { h.same with opened := rfl } }
    rw [acceptBegin_of_closed hx, acceptBegin_of_closed (h.same.xportOk.symm.trans hx)]
    exact hopened.completeBegin hs
  | true =>
    rw [acceptBegin_eq, if_pos hx, acceptBegin_eq, if_pos (h.same.xportOk.symm.trans hx)]
    exact { h with
      same := { h.same with
        phase := rfl, opened := rfl, frame := nofun, reply := nofun, tmr := rfl
        timerState := fun _ => ⟨rfl, rfl⟩ }
      strobes := congrArg (Strobes.start · .settle) h.strobes }

theorem State.AlikeSince.acceptGetData : s.AlikeSince t (acceptGetData r) (acceptGetData u) := by
  rw [acceptGetData_eq, acceptGetData_eq, ← h.same.rxq, ← h.strobes]
  exact { h with
    same := { h.same with
      phase := rfl, frame := fun _ => rfl, reply := nofun, tmr := rfl
      timerState := fun _ => ⟨rfl, rfl⟩, rxq := rfl }
    strobes := rfl
    frame := fun _ => rfl }

theorem State.AlikeSince.acceptSend (hs : s.phase ≠ .gdSync) (cmd : CmdWord) (p : Param) :
    s.AlikeSince t (acceptSend cmd p r) (acceptSend cmd p u) := by
  rw [acceptSend_eq, acceptSend_eq, ← h.same.cfg, ← h.strobes]
  split_ifs
  · exact { h with
      same := { h.same with
        phase := rfl, frame := nofun, reply := nofun, tmr := rfl, timerState := absurd rfl
        rxq := rfl, cfg := rfl }
      strobes := rfl
      done := rfl
      outcome := fun _ => ⟨rfl, rfl⟩
      measurement := fun hp => absurd hp hs
      txq := fun _ => rfl }
  · exact { h with
      same := { h.same with
        phase := rfl, frame := nofun, reply := fun _ => ⟨rfl, rfl, rfl⟩, tmr := rfl
        timerState := fun _ => ⟨rfl, rfl⟩, rxq := rfl, cfg := rfl }
      strobes := rfl
      reply := fun _ => ⟨rfl, rfl⟩
      txq := fun _ => rfl }

theorem State.AlikeSince.acceptPort (hs : s.phase ≠ .gdSync) :
    s.AlikeSince t (acceptPort r) (acceptPort u) := by
  unfold Machine.acceptPort
  rw [← h.same.reqWord]
  split_ifs
  · exact h.acceptBegin hs
  · exact h.acceptGetData
  · exact h.acceptSend hs _ _

end

/-! #### The agents' turns -/

/-- Where the first turn has a next state, the second has one too, reached alike. -/
def AlikeResults (s t : State) (a b : Result) : Prop :=
  ∀ s', a = .next s' → ∃ t', b = .next t' ∧ s.AlikeSince t s' t'

theorem alikeResults_next {s t r u : State} (h : s.AlikeSince t r u) :
    AlikeResults s t (.next r) (.next u) := by
  rintro s' ⟨⟩
  exact ⟨u, rfl, h⟩

theorem alikeResults_refused {s t : State} {x : Refusal} (b : Result) :
    AlikeResults s t (.refused x) b := by
  rintro s' ⟨⟩

section
variable {s t r u : State} (h : s.AlikeSince t r u)
include h

theorem State.AlikeSince.request {reason : State → Option RefuseReason} {accept : State → State}
    (hp : r.phase = .idle) (hr : reason r = reason u)
    (ha : s.AlikeSince t (accept r) (accept u)) :
    AlikeResults s t (request reason accept r) (request reason accept u) := by
  have hu : u.phase = .idle := h.same.phase ▸ hp
  cases hreason : reason r with
  | none =>
    rw [request_accepted hp hreason, request_accepted hu (hr ▸ hreason)]
    exact alikeResults_next ha
  | some x =>
    rw [request_refused hp hreason, request_refused hu (hr ▸ hreason)]
    exact alikeResults_next { h with same := { h.same with } }

theorem State.AlikeSince.takeRequest : s.AlikeSince t r.takeRequest u.takeRequest :=
  { h with same := { h.same with reqValid := rfl } }

theorem State.AlikeSince.coreTurn (hs : r.phase = s.phase) :
    AlikeResults s t (coreTurn r) (coreTurn u) := by
  have hu : u.phase = s.phase := h.same.phase ▸ hs
  cases hp : s.phase with
  | idle =>
    rw [hp] at hs hu
    cases hv : r.reqValid with
    | false =>
      rw [coreTurn_of_noRequest hs hv, coreTurn_of_noRequest hu (h.same.reqValid ▸ hv)]
      exact alikeResults_next h
    | true =>
      rw [coreTurn_request hs hv, coreTurn_request hu (h.same.reqValid ▸ hv)]
      have ht := h.takeRequest
      exact ht.request hs (by rw [ht.same.cfg, ht.same.opened, ht.same.reqWord])
        (ht.acceptPort (by simp [hp]))
  | gdSync =>
    rw [hp] at hs hu
    rw [coreTurn_gdSync hs, coreTurn_gdSync hu]
    exact alikeResults_next (h.pollGetData hs)
  | scSync =>
    rw [hp] at hs hu
    rw [coreTurn_scSync hs, coreTurn_scSync hu]
    exact alikeResults_next (h.pollSend hp hs)
  | bgSettle =>
    rw [hp] at hs hu
    rw [coreTurn_bgSettle hs, coreTurn_bgSettle hu]
    exact alikeResults_next (h.pollBegin (by simp [hp]) hs)

theorem State.AlikeSince.rxTurn (b : Byte) : AlikeResults s t (rxTurn b r) (rxTurn b u) := by
  rw [rxTurn_eq, rxTurn_eq, ← h.same.cfg, ← h.same.rxq]
  cases rxqAfter r.cfg r.rxq b with
  | none => exact alikeResults_refused _
  | some q => exact alikeResults_next { h with same := { h.same with rxq := rfl, cfg := rfl } }

theorem State.AlikeSince.txdTurn : s.AlikeSince t (txdTurn r) (txdTurn u) := by
  rw [txdTurn_eq, txdTurn_eq]
  exact { h with same := { h.same with }, txq := fun hq => congrArg List.tail (h.txq hq) }

theorem State.AlikeSince.timerTurn : s.AlikeSince t (timerTurn r) (timerTurn u) := by
  have hexp (hp : r.phase ≠ .idle) :
      (r.timerEnabled || r.tmrExp) = (u.timerEnabled || u.tmrExp) := by
    obtain ⟨hx, hpolls⟩ := h.same.timerState hp
    rw [State.timerEnabled, State.timerEnabled, h.same.tmr, h.same.cfg, hx, hpolls]
  rw [timerTurn_eq, timerTurn_eq]
  exact { h with
    same := { h.same with timerState := fun hp => ⟨hexp hp, (h.same.timerState hp).2⟩ } }

theorem State.AlikeSince.coreReset : s.AlikeSince t r.coreReset u.coreReset :=
  { h with
    same := { h.same with
      phase := rfl, opened := rfl, frame := nofun, reply := nofun, tmr := rfl
      timerState := absurd rfl }
    strobes := rfl
    done := rfl
    outcome := nofun
    frame := fun _ => rfl
    measurement := fun _ _ _ _ => ⟨rfl, rfl, rfl⟩
    reply := fun _ => ⟨rfl, rfl⟩
    begun := fun _ => rfl }

/-- From the start of a step, where the phase is still that of `s` and `t`, every agent's turn goes on
alike. -/
theorem State.AlikeSince.turn (hs : r.phase = s.phase) (e : Event) :
    AlikeResults s t (turn e r) (turn e u) := by
  cases e with
  | core => exact h.coreTurn hs
  | rx b => exact h.rxTurn b
  | txd => exact alikeResults_next h.txdTurn
  | timer => exact alikeResults_next h.timerTurn
  | hostRequest w =>
    exact alikeResults_next { h with same := { h.same with reqValid := rfl, reqWord := rfl } }
  | hostXport isOpen => exact alikeResults_next { h with same := { h.same with xportOk := rfl } }
  | hostRead idx => exact alikeResults_next { h with same := { h.same with } }
  | hostWrite _ _ => exact alikeResults_next { h with same := { h.same with } }
  | hostReset => exact alikeResults_next h.coreReset

end

theorem State.SameButResults.nextEvent {s t : State} (h : s.SameButResults t) :
    s.nextEvent = t.nextEvent := by
  rw [State.nextEvent, State.nextEvent, h.sched, h.tick]

/-- Settles O56: the step starts alike in both states, and every turn of the agent that both name goes on
alike. -/
theorem operationsAreIndependent : Obligations.OperationsAreIndependent := by
  intro s t s' h hstep
  rw [step, h.nextEvent] at hstep
  obtain ⟨t', ht, ha⟩ := h.startStep.turn s.startStep_phase t.nextEvent s' hstep
  exact ⟨t', ht, ha.same, ha.strobes, ha.done, ha.outcome,
    fun hp => ⟨ha.frame hp, ha.measurement hp⟩, ha.reply, ha.txq, ha.begun⟩

end Sys2Proof.Machine

/-! ## Proofs: what can stop the machine (60_exceptions.md R300, R321) -/

namespace Sys2Proof.Machine

/-- Settles O44: in every form a request is tested, and then accepted, refused or left waiting. -/
theorem everyRequestHasNextState : Obligations.EveryRequestHasNextState := by
  intro i s
  cases i using instrForms with
  | beginOp p c =>
    rw [exec_beginOp]
    exact request_next _ _ s
  | getData p c =>
    rw [exec_getData]
    exact request_next _ _ s
  | named c p =>
    rw [exec_named]
    exact request_next _ _ s
  | sendGeneric c p =>
    rw [exec_sendGeneric]
    exact request_next _ _ s
  | reservedOp0 r =>
    rw [exec_reservedOp0]
    exact request_next _ _ s

/-- A word that does not decode is refused, which is a next state (R253; log 1). -/
theorem acceptRequest_next (s : State) : ∃ t, acceptRequest s = .next t := by
  unfold acceptRequest
  cases decode s.cfg.table s.reqWord with
  | error r => exact ⟨_, rfl⟩
  | ok i => exact everyRequestHasNextState i s.takeRequest

theorem coreTurn_next (s : State) : ∃ t, coreTurn s = .next t := by
  by_cases hp : s.phase = .idle
  · cases hv : s.reqValid with
    | false => exact ⟨s, coreTurn_of_noRequest hp hv⟩
    | true =>
      rw [coreTurn, if_pos hp, if_pos hv]
      exact acceptRequest_next s
  · exact ⟨poll s, coreTurn_busy hp⟩

/-- An arrival has a next state, unless the build refuses it and RXQ is full (R40, decision D31). -/
theorem rxTurn_next_or_overflow (b : Byte) (s : State) :
    (∃ t, rxTurn b s = .next t) ∨
      (rxTurn b s = .refused .rxOverflow ∧ s.cfg.rxFull = .refuse ∧
        ∃ cap ∈ s.cfg.rxCap, cap ≤ s.rxq.length) := by
  rcases rxTurn_cases b s with ⟨e, -⟩ | ⟨cap, hcap, hfull, ⟨hr, e⟩ | ⟨-, e⟩ | ⟨-, e⟩⟩
  · exact .inl ⟨_, e⟩
  · exact .inr ⟨e, hr, cap, hcap, hfull⟩
  · exact .inl ⟨_, e⟩
  · exact .inl ⟨_, e⟩

/-- Every agent's turn but an arrival has a next state (log 4 for one with no enabled step). -/
theorem turn_next {e : Event} (he : ∀ b, e ≠ .rx b) (s : State) : ∃ t, turn e s = .next t := by
  cases e with
  | core => exact coreTurn_next s
  | rx b => exact absurd rfl (he b)
  | txd | timer | hostRequest | hostXport | hostRead | hostWrite | hostReset => exact ⟨_, rfl⟩

/-- Settles O43: the step is one agent's turn, and the start of a step leaves the parameters and RXQ that
an arrival reads. -/
theorem onlyOverflowStops : Obligations.OnlyOverflowStops := by
  intro s
  by_cases he : ∃ b, s.nextEvent = .rx b
  · obtain ⟨b, hb⟩ := he
    have hrx := rxTurn_next_or_overflow b s.startStep
    rw [State.startStep_cfg, State.startStep_rxq] at hrx
    rw [step, hb]
    exact hrx.imp_right fun ⟨e, hfull⟩ => ⟨e, ⟨b, rfl⟩, hfull⟩
  · exact .inl (turn_next (not_exists.1 he) s.startStep)

end Sys2Proof.Machine

/-! ## Proofs: power-on and the core reset (60_exceptions.md R340, R341) -/

namespace Sys2Proof.Machine

/-- At power-on the core registers do not depend on the bytes that wait in RXQ. -/
@[simp] theorem State.powerOn_coreRegs (q : List Byte) :
    (State.powerOn q).coreRegs = State.reset.coreRegs := rfl

@[simp] theorem State.coreReset_coreRegs (s : State) :
    s.coreReset.coreRegs = State.reset.coreRegs := rfl

/-- A step that asserts rst is the core reset of the step's start, whatever the phase. -/
theorem step_hostReset {s : State} {rest : List Event} (h : s.sched = .hostReset :: rest) :
    step s = .next s.startStep.coreReset := by
  rw [step, State.nextEvent_of_sched h, turn]

/-- Settles O2: the step is the core reset of the step's start, whose RXQ, TXQ and WIRE are still those
of the state. -/
theorem coreResetKeepsTransport : Obligations.CoreResetKeepsTransport := by
  intro s rest h
  have hreset : State.reset.tmr = .none ∧ State.reset.tmrExp = false ∧ State.reset.tmrPolls = 0 ∧
      State.reset.done = false ∧ State.reset.reqRefused = false ∧
      State.reset.refusalMark = none ∧ State.reset.status = .ready ∧ State.reset.ok = false := by
    decide
  exact ⟨s.startStep.coreReset, step_hostReset h, by simp [hreset]⟩

/-- Settles O1: power-on writes the values out, and a core reset takes the same ones (O2). -/
theorem powerOnAndResetState : Obligations.PowerOnAndResetState := by
  refine ⟨fun q => ⟨⟨?registers, rfl, rfl, rfl, rfl, rfl, rfl⟩, rfl, rfl, rfl⟩,
    fun s rest h => ?afterReset⟩
  case registers => exact State.powerOn_coreRegs q
  case afterReset =>
    obtain ⟨t, hstep, hregs, htmr, hexp, hpolls, hdone, hrefused, hmark, -⟩ :=
      coreResetKeepsTransport s rest h
    exact ⟨t, hstep, hregs, htmr, hexp, hpolls, hrefused, hdone, hmark⟩

end Sys2Proof.Machine
